-- ==== Sys2Proof/Word.lean ====
section
/-! DEFINITION. The word types of the block (spec/10_state.md R20, spec/30_encoding.md R60 and R62).

A tick value (a timestamp or a duration) and an EDGE word have a width that a build parameter fixes: `TICK_W` and
`TICK_W + 2` bits (R6, R62). Both are unsigned numbers on which every rule computes as naturals and none wraps (R14), so
they are held as `Nat`. That a stored tick fits its register is an invariant, `Block.TickInv` of Safety.lean (R31 item
4); that an EDGE word fits its port is what `portEdge` of Machine/Ops.lean reads. Log entry 3. -/

namespace Sys2Proof

/-- A 24-bit frame: the accumulator `acc` and the latched `code` (R23, R28). -/
abbrev Frame := BitVec 24

/-- The 20-bit remote ID, `code[23:4]` (R28, R67). -/
abbrev RemoteId := BitVec 20

/-- The 4-bit key, `code[3:0]` (R28, R67). -/
abbrev Key := BitVec 4

/-- The READ word `rd_op[1:0]` (R62). -/
abbrev ReadWord := BitVec 2

/-- The CTRL word `rst` (R62). -/
abbrev CtrlWord := BitVec 1

end Sys2Proof
end

