-- ==== Sys2Proof/Config.lean ====
section
/-! DEFINITION. The build parameters of an instance (spec/00_scope.md R6 to R9; R35, R160). -/

namespace Sys2Proof

/-- The sensitivity profile (R7): one of two, fixed for the life of the instance. -/
inductive Profile where
  | low
  | high
deriving DecidableEq, Repr, Inhabited

/-- The three build parameters (R6, R7, R8). The machine's state carries them so that every statement over all states
quantifies over every instance; no operation writes them (R35). -/
structure Params where
  /-- `TICK_W`, the width in bits of a timestamp and of a duration (R6). -/
  tickW : Nat
  /-- `MAX_TICK`, the constant of the wraparound formula (R8). -/
  maxTick : Nat
  /-- `PROFILE` (R7). -/
  profile : Profile
deriving DecidableEq, Repr

/-- The ranges R6 and R8 give: `TICK_W >= 1` and `1 <= MAX_TICK <= 2^TICK_W - 1`. -/
abbrev Params.Wf (p : Params) : Prop :=
  1 ≤ p.tickW ∧ 1 ≤ p.maxTick ∧ p.maxTick ≤ 2 ^ p.tickW - 1

/-- The default of `TICK_W` (R6). -/
def Config.defaultTickW : Nat := 16

/-- The default of `MAX_TICK` at a given width (R8). -/
def Config.defaultMaxTick (tickW : Nat) : Nat := 2 ^ tickW - 1

/-- `FRAME_BITS`, the symbols of a frame (R9). -/
def Config.frameBits : Nat := 24

/-- The instance's profile, which the specification leaves open with no default (R7, D20, N12): a free value, so that
no claim can rest on either profile. Log entry 2. -/
opaque Config.profile : Profile

/-- An instance at the default width and `MAX_TICK` (R6, R8), with the profile as an argument (R7). -/
def Params.standard (profile : Profile) : Params :=
  { tickW := Config.defaultTickW
    maxTick := Config.defaultMaxTick Config.defaultTickW
    profile := profile }

end Sys2Proof
end

