-- ==== Sys2Proof/Syntax.lean ====
section
/-! DEFINITION. The operations the block accepts on its ports: one constructor per row of spec/opcode_table.json
(spec/30_encoding.md R63 to R65, R68, R71). -/

namespace Sys2Proof

/-- The nine rows of the opcode map. All four EDGE forms carry the word's `time` field (R62): FALL and RISE use it as
`now` (R66); EDGE_IDLE and the reserved form ignore it (R66), and the fault record of R132 keeps it. -/
inductive Instr where
  /-- EDGE_IDLE, `edge_op = 00` (R88). -/
  | edgeIdle (time : Nat)
  /-- FALL, `edge_op = 01`: `on_falling_edge(now)` (R89). -/
  | fall (now : Nat)
  /-- RISE, `edge_op = 10`: `on_rising_edge(now)` (R91). -/
  | rise (now : Nat)
  /-- EDGE_RESERVED, `edge_op = 11` (R68). -/
  | edgeReserved (time : Nat)
  /-- READ_IDLE, `rd_op = 00` (R113). -/
  | readIdle
  /-- IS_VALID, `rd_op = 01` (R110). -/
  | isValid
  /-- TAKE_CODE, `rd_op = 10` (R111). -/
  | takeCode
  /-- GET_INFO, `rd_op = 11` (R112). -/
  | getInfo
  /-- RESET, `rst = 1` (R150). -/
  | reset
deriving DecidableEq, Repr

/-- The three command inputs, one per agent (R12, R62): the EDGE word of the edge source, the READ word of the reader
and the CTRL word of the host. -/
inductive Port where
  | edge
  | read
  | ctrl
deriving DecidableEq, Repr

/-- Why a word is no operation. The map has no hole in its formats (R64, R68, R69), so a word is rejected only for not
fitting its port, or for being the CTRL word that asks for nothing. -/
inductive DecodeError where
  /-- The number does not fit the `TICK_W + 2` wires of the EDGE word (R62). -/
  | edgeWordTooWide
  /-- The number does not fit the two wires of `rd_op` (R62). -/
  | readWordTooWide
  /-- The number does not fit the one wire `rst` (R62). -/
  | ctrlWordTooWide
  /-- `rst = 0` is no reset (R65). -/
  | noReset
deriving DecidableEq, Repr

/-- What decoding a word answers: an operation, or a rejection by name. -/
inductive Decoded where
  | ok (i : Instr)
  | error (e : DecodeError)
deriving DecidableEq, Repr

/-- What a cycle presents: the tuple `(rst, EDGE word, READ word)` (R62). -/
structure CycleInput where
  rst : CtrlWord
  edge : Nat
  read : ReadWord
deriving DecidableEq, Repr

/-- The cycle input with no operation on any port (R65, R72). -/
def CycleInput.idle : CycleInput := { rst := 0#1, edge := 0, read := 0#2 }

end Sys2Proof
end

