-- ==== Sys2Proof/WellFormed.lean ====
section
/-! DEFINITION. Which operations an instance of a given tick width can be presented (spec/30_encoding.md R66, R69, R72). -/

namespace Sys2Proof

/-- The `time` field fits the `TICK_W` wires of `edge_time`: `0 <= time <= 2^TICK_W - 1` (R72). The other forms have no
operand. A time above `MAX_TICK` is well formed: it is a domain condition of FALL and RISE (R81), not of the encoding
(R69). -/
def Instr.wellFormed (tickW : Nat) (i : Instr) : Bool :=
  match i with
  | .edgeIdle time => decide (time < 2 ^ tickW)
  | .fall now => decide (now < 2 ^ tickW)
  | .rise now => decide (now < 2 ^ tickW)
  | .edgeReserved time => decide (time < 2 ^ tickW)
  | .readIdle => true
  | .isValid => true
  | .takeCode => true
  | .getInfo => true
  | .reset => true

end Sys2Proof
end

