-- ==== Sys2Proof/Decode.lean ====
section
/-! DEFINITION. From port words to operations and back (spec/30_encoding.md R62 to R66, R70, R71). -/

namespace Sys2Proof

/-- The EDGE word `{op, time}` (R62): `op` in the two bits above the `TICK_W` bits of `time`. -/
def edgeWord (tickW op : Nat) (time : Nat) : Nat := op * 2 ^ tickW + time

/-- The `op` field of an EDGE word, bits `TICK_W+1 : TICK_W` (R62). -/
def edgeOpField (tickW : Nat) (w : Nat) : BitVec 2 := BitVec.ofNat 2 (w / 2 ^ tickW)

/-- The `time` field of an EDGE word, bits `TICK_W-1 : 0`, taken as it stands (R62, R66). -/
def edgeTimeField (tickW : Nat) (w : Nat) : Nat := w % 2 ^ tickW

/-- The operation of an EDGE word (R63, R71): every value of `op` has a row, the reserved one among them. -/
def edgeInstr (tickW : Nat) (w : Nat) : Instr :=
  let op := edgeOpField tickW w
  let time := edgeTimeField tickW w
  if op = 0b00#2 then .edgeIdle time
  else if op = 0b01#2 then .fall time
  else if op = 0b10#2 then .rise time
  else .edgeReserved time

/-- The operation of a READ word (R64): the four values are all assigned. -/
def readInstr (w : ReadWord) : Instr :=
  if w = 0b00#2 then .readIdle
  else if w = 0b01#2 then .isValid
  else if w = 0b10#2 then .takeCode
  else .getInfo

/-- Decode an EDGE word given as a number (R63). -/
def decodeEdge (tickW : Nat) (w : Nat) : Decoded :=
  if w < 2 ^ (tickW + 2) then .ok (edgeInstr tickW w) else .error .edgeWordTooWide

/-- Decode a READ word given as a number (R64). -/
def decodeRead (w : Nat) : Decoded :=
  if w < 4 then .ok (readInstr (BitVec.ofNat 2 w)) else .error .readWordTooWide

/-- Decode a CTRL word given as a number (R65). -/
def decodeCtrl (w : Nat) : Decoded :=
  if w = 0 then .error .noReset
  else if w = 1 then .ok .reset
  else .error .ctrlWordTooWide

/-- Decode a word on a port: the operation is selected by the port and the word alone (R70). -/
def decode (tickW : Nat) (port : Port) (w : Nat) : Decoded :=
  match port with
  | .edge => decodeEdge tickW w
  | .read => decodeRead w
  | .ctrl => decodeCtrl w

/-- The port an operation is presented on (R62). -/
def portOf (i : Instr) : Port :=
  match i with
  | .edgeIdle _ => .edge
  | .fall _ => .edge
  | .rise _ => .edge
  | .edgeReserved _ => .edge
  | .readIdle => .read
  | .isValid => .read
  | .takeCode => .read
  | .getInfo => .read
  | .reset => .ctrl

/-- The word of an operation on its port (R63, R64, R65). -/
def encodeWord (tickW : Nat) (i : Instr) : Nat :=
  match i with
  | .edgeIdle time => edgeWord tickW 0 time
  | .fall now => edgeWord tickW 1 now
  | .rise now => edgeWord tickW 2 now
  | .edgeReserved time => edgeWord tickW 3 time
  | .readIdle => 0
  | .isValid => 1
  | .takeCode => 2
  | .getInfo => 3
  | .reset => 1

/-- The encoder: the port of an operation and its word there. -/
def encode (tickW : Nat) (i : Instr) : Port × Nat := (portOf i, encodeWord tickW i)

/-- How many wires a port's word has (R62). -/
def portWidth (tickW : Nat) (port : Port) : Nat :=
  match port with
  | .edge => tickW + 2
  | .read => 2
  | .ctrl => 1

/-- Which port a row of spec/opcode_table.json of `nbits` bits belongs to: the table gives EDGE rows 18 bits, READ
rows 2 and the CTRL row 1, which in whole bytes are 24, 8 and 8. Eight bits are read as a READ word: the byte count
does not tell a READ row from the CTRL row, whose one word `1` is also IS_VALID's. Log entry 8. -/
def tablePort (nbits : Nat) : Option Port :=
  if nbits = 18 ∨ nbits = 24 then some .edge
  else if nbits = 2 ∨ nbits = 8 then some .read
  else if nbits = 1 then some .ctrl
  else none

/-- The operation the decoder reads from a word numbered as the opcode table numbers it, at the table's `TICK_W = 16`
(R62, R71). -/
def decodeTableWord (nbits w : Nat) : Option Instr :=
  match tablePort nbits with
  | none => none
  | some port =>
    match decode Config.defaultTickW port w with
    | .ok i => some i
    | .error _ => none

end Sys2Proof
end

