-- ==== Sys2Proof/Machine/State.lean ====
section
/-! DEFINITION. The machine's state as plain data (spec/10_state.md R20, R34; spec/60_exceptions.md R132). -/

namespace Sys2Proof.Machine

/-- The model faults of R132. Each is RECORDED in `State.faults` by the operation that raises it, and the run goes on
(R16, R132): no step of this model ends in a `Host.Outcome.fault`. Safe: the record is never cleared, and no claim may
rest on a run that has one (R16). -/
inductive Fault where
  /-- Raised by an EDGE word with `edge_op = 11` in a cycle without RESET (R68, R132). Safe: a marked run. -/
  | edgeOpReserved
  /-- Raised by FALL or RISE with `edge_time > MAX_TICK` in a cycle without RESET (R81, R132). Safe: a marked run. -/
  | timestampRange
deriving DecidableEq, Repr

/-- Why a step could be refused. No operation of the block can refuse or stall (R16). -/
inductive Refusal where
  /-- Raised by an arm of `exec` for an operation that has no meaning yet; no arm raises it. Safe. -/
  | notModelled (mnemonic : String)
deriving DecidableEq, Repr

/-- The nine state elements of the block, and no other (R20). -/
structure Block where
  /-- `sync`, 1 bit: a sync pulse has opened a frame that is still being received (R21). -/
  sync : Bool
  /-- `idx`, the symbols accepted since the sync pulse. Its five wires hold 0..23 only (R22); the model uses a type
  with 24 values, as I12 allows. Log entry 4. -/
  idx : Fin 24
  /-- `acc`, 24 bits: the frame being assembled (R23). -/
  acc : Frame
  /-- `t_rise`, `TICK_W` bits: the `now` of the latest RISE (R24). -/
  tRise : Nat
  /-- `t_fall`, `TICK_W` bits: the `now` of the latest FALL (R25). -/
  tFall : Nat
  /-- `d_high`, `TICK_W` bits: the latest T_high (R26). -/
  dHigh : Nat
  /-- `d_low`, `TICK_W` bits: the latest T_low (R27). -/
  dLow : Nat
  /-- `code`, 24 bits: the latched frame (R28). -/
  code : Frame
  /-- `ready`, 1 bit: the handshake flag (R29). -/
  ready : Bool
deriving DecidableEq, Repr

/-- Every element 0: the reset value of the block (R34, R150). -/
def Block.reset : Block :=
  { sync := false, idx := 0, acc := 0#24, tRise := 0, tFall := 0, dHigh := 0, dLow := 0, code := 0#24, ready := false }

/-- What the output ports show (R60, R114). -/
structure Outputs where
  readyO : Bool
  codeO : Frame
  idO : RemoteId
  keyO : Key
deriving DecidableEq, Repr

/-- What a reader operation delivers in its own cycle (R110 to R113). TAKE_CODE and GET_INFO deliver the `ready_o`
they were taken with beside their value (R111, R118). -/
inductive Returned where
  | nothing
  | valid (ready : Bool)
  | code (code : Frame) (readyO : Bool)
  | info (remoteId : RemoteId) (key : Key) (readyO : Bool)
deriving DecidableEq, Repr

/-- A recorded model fault: the cycle number, the fault's name and the EDGE word (R132). -/
structure FaultRecord where
  cycle : Nat
  fault : Fault
  word : Nat
deriving DecidableEq, Repr

/-- The block, the record of model faults, and the model's own fields around them: the instance's parameters, the
cycle number, the three agents' input streams and what the latest cycle delivered. -/
structure State where
  /-- The build parameters: configuration, never written (R35, R160). -/
  params : Params
  /-- The block's nine elements (R20). -/
  block : Block
  /-- The number of the next cycle, counted from the launch state; RESET does not change it (R132). -/
  cycle : Nat
  /-- The model faults recorded so far, oldest first; never cleared (R132). -/
  faults : List FaultRecord
  /-- The edge source's EDGE words still to come, one a cycle; none left is EDGE_IDLE (R12, R72). -/
  edgeIn : List Nat
  /-- The reader's READ words still to come, one a cycle; none left is READ_IDLE (R12, R72). -/
  readIn : List ReadWord
  /-- The host's CTRL words still to come, one a cycle; none left is `rst = 0` (R12, R65). -/
  rstIn : List CtrlWord
  /-- The outputs of the latest cycle, which show the state at that cycle's start (R114, R153). -/
  outputs : Outputs
  /-- What the latest cycle's reader operation delivered (R15, R114). -/
  returned : Returned
deriving DecidableEq, Repr

/-- The launch state of an instance with given parameters: the reset state of R34, which is the only launch state R151
admits, with nothing presented yet. -/
def State.resetOf (p : Params) : State :=
  { params := p
    block := Block.reset
    cycle := 0
    faults := []
    edgeIn := []
    readIn := []
    rstIn := []
    outputs := { readyO := false, codeO := 0#24, idO := 0#20, keyO := 0#4 }
    returned := .nothing }

/-- The machine right after reset, at the default `TICK_W` and `MAX_TICK` (R6, R8) and the open profile (R7). -/
def State.reset : State := State.resetOf (Params.standard Config.profile)

end Sys2Proof.Machine
end

