-- ==== Sys2Proof/Machine/Flags.lean ====
section
/-! DEFINITION. The threshold classifier and the value of a symbol (spec/00_scope.md R10; spec/40_edge_ops.md R83 to
R87). -/

namespace Sys2Proof.Machine

/-- The label of a pulse pair (R85). -/
inductive PulseClass where
  | sync
  | zero
  | one
  | invalid
deriving DecidableEq, Repr

/-- `SYNC_MIN` (R10). -/
def syncMin (p : Profile) : Nat :=
  match p with
  | .low => 28
  | .high => 29

/-- `SYNC_MAX` (R10). -/
def syncMax (p : Profile) : Nat :=
  match p with
  | .low => 34
  | .high => 32

/-- `SYM_MIN` (R10). -/
def symMin (p : Profile) : Nat :=
  match p with
  | .low => 1
  | .high => 2

/-- `SYM_MAX` (R10). -/
def symMax (p : Profile) : Nat :=
  match p with
  | .low => 5
  | .high => 4

/-- "`x` is `a`–`b`× `y`": inclusive bounds, compared by exact products (R84). -/
def ratioIn (a b x y : Nat) : Bool := decide (a * y ≤ x) && decide (x ≤ b * y)

/-- The class of the pair (T_high, T_low): the first category that holds, in the order of R85. -/
def classify (p : Profile) (th tl : Nat) : PulseClass :=
  if ratioIn (syncMin p) (syncMax p) tl th then .sync
  else if ratioIn (symMin p) (symMax p) tl th then .zero
  else if ratioIn (symMin p) (symMax p) th tl then .one
  else .invalid

/-- The pair is a symbol: it carries one bit of the frame (R87 and the glossary of spec/00_scope.md). -/
def isSymbol (c : PulseClass) : Bool :=
  match c with
  | .sync => false
  | .zero => true
  | .one => true
  | .invalid => false

/-- The bit a symbol carries: ZERO 0 and ONE 1 (R87). -/
def symbolBit (c : PulseClass) : Bool :=
  match c with
  | .sync => false
  | .zero => false
  | .one => true
  | .invalid => false

end Sys2Proof.Machine
end

