-- ==== Sys2Proof/Machine/Operands.lean ====
section
/-! DEFINITION. Operands: the edge timestamp comparator, the domain of a timestamp, and the fields of the code
(spec/40_edge_ops.md R80, R81; spec/30_encoding.md R67). -/

namespace Sys2Proof.Machine

/-- The duration from timestamp `start` to timestamp `stop`, with wraparound (R80). -/
def dur (maxTick : Nat) (start stop : Nat) : Nat :=
  if stop ≤ start then (maxTick - start) + stop else stop - start

/-- The domain of the `now` of FALL and RISE: `now <= MAX_TICK` (R81). -/
def inRange (p : Params) (now : Nat) : Bool := decide (now ≤ p.maxTick)

/-- `code[23:4]` (R67, R112). -/
def remoteIdOf (code : Frame) : RemoteId := code.extractLsb' 4 20

/-- `code[3:0]` (R67, R112). -/
def keyOf (code : Frame) : Key := code.extractLsb' 0 4

end Sys2Proof.Machine
end

