-- ==== Sys2Proof/Machine/Ops.lean ====
section
/-! DEFINITION. The named operations over the block's registers, the record of model faults, and the ports
(spec/40_edge_ops.md R89 to R92; spec/45_reader_ops.md R110 to R114; spec/60_exceptions.md R132;
spec/70_reset_and_hazards.md R153). -/

namespace Sys2Proof.Machine

/-- Go on with the next state of an outcome; a fault or a refusal stops. -/
def andThen (o : Host.Outcome State Fault Refusal) (k : State → Host.Outcome State Fault Refusal) :
    Host.Outcome State Fault Refusal :=
  match o with
  | .next s => k s
  | .fault f => .fault f
  | .refused r => .refused r

/-! ### The registers of the block -/

/-- `acc` with the bit of symbol `idx` set: `a OR (1 << (23 - idx))` (R23, R91). -/
def setSymbolBit (acc : Frame) (idx : Fin 24) : Frame := acc ||| (1#24 <<< (23 - idx.val))

/-- `acc` after a symbol that carries `bit` (R87, R91). -/
def accumulate (bit : Bool) (b : Block) : Frame :=
  if bit then setSymbolBit b.acc b.idx else b.acc

/-- A sync pulse: the frame machine enters Receiving(0) from any state (R91, R95). -/
def openFrame (b : Block) : Block := { b with sync := true, idx := 0, acc := 0#24 }

/-- Back to Idle, with `acc` cleared (R91, C1, D11). -/
def closeFrame (b : Block) : Block := { b with sync := false, idx := 0, acc := 0#24 }

/-- FrameReady: latch the code and raise `ready` together, then back to Idle (R49, R91). -/
def latchFrame (a : Frame) (b : Block) : Block := closeFrame { b with code := a, ready := true }

/-- A symbol accepted in Receiving(idx): the next position, or the latch when the count reaches 24 (R91). -/
def acceptSymbol (bit : Bool) (b : Block) : Block :=
  if h : b.idx.val + 1 < 24 then
    { b with acc := accumulate bit b, idx := ⟨b.idx.val + 1, h⟩ }
  else
    latchFrame (accumulate bit b) b

/-- The frame state machine on the class of a RISE (R91, R92). -/
def frameStep (c : PulseClass) (b : Block) : Block :=
  match c with
  | .sync => openFrame b
  | .zero => if b.sync then acceptSymbol (symbolBit .zero) b else b
  | .one => if b.sync then acceptSymbol (symbolBit .one) b else b
  | .invalid => if b.sync then closeFrame b else b

/-- T_high of a FALL at `now` (R89). -/
def highDuration (p : Params) (now : Nat) (b : Block) : Nat := dur p.maxTick b.tRise now

/-- T_low of a RISE at `now` (R91). -/
def lowDuration (p : Params) (now : Nat) (b : Block) : Nat := dur p.maxTick b.tFall now

/-- The class of a RISE at `now`: T_high of the latest FALL against the T_low it computes itself (R83). -/
def riseClass (p : Params) (now : Nat) (b : Block) : PulseClass :=
  classify p.profile b.dHigh (lowDuration p now b)

/-- The registers after a FALL at an admissible `now` (R89). -/
def fallBlock (p : Params) (now : Nat) (b : Block) : Block :=
  { b with dHigh := highDuration p now b, tFall := now }

/-- The registers after a RISE at an admissible `now` (R91). -/
def riseBlock (p : Params) (now : Nat) (b : Block) : Block :=
  frameStep (riseClass p now b) { b with dLow := lowDuration p now b, tRise := now }

/-- The reader's clear of the flag (R111, R112). -/
def clearReady (b : Block) : Block := { b with ready := false }

/-- RESET's values for the block (R34, R150). -/
def resetBlock : Block := Block.reset

/-! ### Updates of the machine's state -/

/-- Replace the block. -/
def setBlock (b : Block) (s : State) : State := { s with block := b }

/-- Record a model fault of this cycle with its EDGE word; the operation that raises it writes nothing else (R15,
R132). This is the one way a fault enters the record: the block has no exception and no trap (R130, R136). -/
def raiseFault (f : Fault) (word : Nat) (s : State) : State :=
  { s with faults := s.faults ++ [{ cycle := s.cycle, fault := f, word := word }] }

/-- What the outputs show of a block (R114, R67). -/
def outputsOf (b : Block) : Outputs :=
  { readyO := b.ready, codeO := b.code, idO := remoteIdOf b.code, keyO := keyOf b.code }

/-- What a reader operation delivers from the block as it stands at the start of its cycle (R110 to R114); the other
operations deliver nothing. -/
def readReturn (i : Instr) (b : Block) : Returned :=
  match i with
  | .isValid => .valid b.ready
  | .takeCode => .code b.code b.ready
  | .getInfo => .info (remoteIdOf b.code) (keyOf b.code) b.ready
  | .readIdle => .nothing
  | .edgeIdle _ => .nothing
  | .fall _ => .nothing
  | .rise _ => .nothing
  | .edgeReserved _ => .nothing
  | .reset => .nothing

/-- Deliver a reader operation's value on the outputs. -/
def deliver (r : Returned) (s : State) : State := { s with returned := r }

/-! ### The ports of a cycle -/

/-- `rst` of this cycle (R65). -/
def portRst (s : State) : Bool := s.rstIn.headD 0#1 == 1#1

/-- The EDGE word of this cycle: the `TICK_W + 2` wires of the port (R62). -/
def portEdge (s : State) : Nat := s.edgeIn.headD 0 % 2 ^ (s.params.tickW + 2)

/-- The READ word of this cycle (R62). -/
def portRead (s : State) : ReadWord := s.readIn.headD 0#2

/-- The edge operation of this cycle (R63). -/
def fetchEdge (s : State) : Instr := edgeInstr s.params.tickW (portEdge s)

/-- The reader operation of this cycle (R64). -/
def fetchRead (s : State) : Instr := readInstr (portRead s)

/-- The start of a cycle: the outputs show the state as it stands, and no reader operation has delivered yet (R114,
R153). -/
def beginCycle (s : State) : State := { s with outputs := outputsOf s.block, returned := .nothing }

/-- The end of a cycle: each agent's word of the cycle is used up, and the next cycle has the next number (R155,
R161). -/
def endCycle (s : State) : State :=
  { s with cycle := s.cycle + 1, edgeIn := s.edgeIn.tail, readIn := s.readIn.tail, rstIn := s.rstIn.tail }

/-- The state whose next cycles are given the inputs `cs`, one after another (R62). -/
def withInputs (cs : List CycleInput) (s : State) : State :=
  { s with rstIn := cs.map (·.rst), edgeIn := cs.map (·.edge), readIn := cs.map (·.read) }

/-- Replace the input of the next cycle, and leave the later ones. -/
def presentInput (c : CycleInput) (s : State) : State :=
  { s with rstIn := c.rst :: s.rstIn.tail, edgeIn := c.edge :: s.edgeIn.tail, readIn := c.read :: s.readIn.tail }

/-- The cycle input that carries one word on one port and nothing on the others (R72: a missing item is idle). -/
def inputOn (port : Port) (w : Nat) : CycleInput :=
  match port with
  | .edge => { CycleInput.idle with edge := w }
  | .read => { CycleInput.idle with read := BitVec.ofNat 2 w }
  | .ctrl => { CycleInput.idle with rst := BitVec.ofNat 1 w }

end Sys2Proof.Machine
end

