-- ==== Sys2Proof/Machine/Control.lean ====
section
/-! DEFINITION. The host's operation (spec/70_reset_and_hazards.md R150). -/

namespace Sys2Proof.Machine

/-- RESET: all nine elements take their reset value; recorded faults stay recorded (R150, R132), and the parameters
are no state (R35). -/
def execReset (s : State) : Host.Outcome State Fault Refusal := .next (setBlock resetBlock s)

end Sys2Proof.Machine
end

