-- ==== Sys2Proof/Machine/Edge.lean ====
section
/-! DEFINITION. The edge source's operations (spec/40_edge_ops.md R88 to R91; spec/30_encoding.md R68). -/

namespace Sys2Proof.Machine

/-- EDGE_IDLE: no edge this cycle; `edge_time` is ignored (R88). -/
def execEdgeIdle (_time : Nat) (s : State) : Host.Outcome State Fault Refusal := .next s

/-- FALL: store T_high and the new falling reference; out of range, record `TimestampRange` and write nothing (R89,
R81). -/
def execFall (now : Nat) (s : State) : Host.Outcome State Fault Refusal :=
  .next (if inRange s.params now then setBlock (fallBlock s.params now s.block) s
    else raiseFault .timestampRange (encodeWord s.params.tickW (.fall now)) s)

/-- RISE: store T_low and the new rising reference, classify the pair and run the frame machine; out of range, record
`TimestampRange` and write nothing (R91, R81). -/
def execRise (now : Nat) (s : State) : Host.Outcome State Fault Refusal :=
  .next (if inRange s.params now then setBlock (riseBlock s.params now s.block) s
    else raiseFault .timestampRange (encodeWord s.params.tickW (.rise now)) s)

/-- The reserved EDGE word: no edge operation is performed, and `EdgeOpReserved` is recorded with the word (R68,
R132). -/
def execEdgeReserved (time : Nat) (s : State) : Host.Outcome State Fault Refusal :=
  .next (raiseFault .edgeOpReserved (encodeWord s.params.tickW (.edgeReserved time)) s)

end Sys2Proof.Machine
end

