-- ==== Sys2Proof/Machine/Reader.lean ====
section
/-! DEFINITION. The reader's operations (spec/45_reader_ops.md R110 to R113). -/

namespace Sys2Proof.Machine

/-- READ_IDLE: no reader operation this cycle (R113). -/
def execReadIdle (s : State) : Host.Outcome State Fault Refusal := .next s

/-- IS_VALID: deliver `ready`; nothing is written (R110). -/
def execIsValid (s : State) : Host.Outcome State Fault Refusal :=
  .next (deliver (readReturn .isValid s.block) s)

/-- TAKE_CODE: deliver `code` with the `ready` it was taken with, stale or not, and clear `ready` (R111, R115). -/
def execTakeCode (s : State) : Host.Outcome State Fault Refusal :=
  .next (setBlock (clearReady s.block) (deliver (readReturn .takeCode s.block) s))

/-- GET_INFO: deliver the remote ID and the key, stale or not, and clear `ready` (R112, R115). -/
def execGetInfo (s : State) : Host.Outcome State Fault Refusal :=
  .next (setBlock (clearReady s.block) (deliver (readReturn .getInfo s.block) s))

end Sys2Proof.Machine
end

