-- ==== Sys2Proof/Machine/Dispatch.lean ====
section
/-! DEFINITION. One arm per operation of the opcode map (spec/30_encoding.md R71). -/

namespace Sys2Proof.Machine

def exec (i : Instr) (s : State) : Host.Outcome State Fault Refusal :=
  match i with
  | .edgeIdle time => Sys2Proof.Machine.execEdgeIdle time s
  | .fall now => Sys2Proof.Machine.execFall now s
  | .rise now => Sys2Proof.Machine.execRise now s
  | .edgeReserved time => Sys2Proof.Machine.execEdgeReserved time s
  | .readIdle => Sys2Proof.Machine.execReadIdle s
  | .isValid => Sys2Proof.Machine.execIsValid s
  | .takeCode => Sys2Proof.Machine.execTakeCode s
  | .getInfo => Sys2Proof.Machine.execGetInfo s
  | .reset => Sys2Proof.Machine.execReset s

end Sys2Proof.Machine
end

