-- ==== Sys2Proof/Machine/Cycle.lean ====
section
/-! DEFINITION. The cycle: how the operations presented on the three ports combine
(spec/70_reset_and_hazards.md R150, R153; spec/20_memory.md R50). -/

namespace Sys2Proof.Machine

/-- A cycle with `rst = 1`: the EDGE and READ words are ignored and raise no fault, and the reset replaces what they
would have done; the outputs, and so a reader operation's value, still show the block as it was (R150, R153). Log entry 9. -/
def cycleReset (s : State) : Host.Outcome State Fault Refusal :=
  andThen (exec .reset (deliver (readReturn (fetchRead s) s.block) (beginCycle s)))
    (fun t => .next (endCycle t))

/-- A cycle with `rst = 0`: the reader operation first, on the state at the start of the cycle, and the edge operation
second (R153, R135). -/
def cycleRun (s : State) : Host.Outcome State Fault Refusal :=
  andThen (exec (fetchRead s) (beginCycle s)) (fun s1 =>
    andThen (exec (fetchEdge s) s1) (fun s2 => .next (endCycle s2)))

/-- One cycle of the block (R153). -/
def cycle (s : State) : Host.Outcome State Fault Refusal :=
  if portRst s then cycleReset s else cycleRun s

end Sys2Proof.Machine
end

