-- ==== Sys2Proof/Machine/Step.lean ====
section
/-! DEFINITION. The step of the machine: one cycle (spec/70_reset_and_hazards.md R153, R161). -/

namespace Sys2Proof.Machine

/-- One step is one cycle (R161). -/
def step (s : State) : Host.Outcome State Fault Refusal := cycle s

/-- The state whose next cycle presents the table word `w` on its port and nothing on the others. The block has no
program memory and no program counter: its commands stand on its ports, one word a cycle (R32, R54), so this is how an
operation reaches it. The word is laid out for the table's `TICK_W = 16` (R62). Log entries 7 and 8. -/
def State.withFetchWord (s : State) (nbits w : Nat) : State :=
  match tablePort nbits with
  | none => s
  | some port => presentInput (inputOn port w) s

end Sys2Proof.Machine
end

