-- ==== Sys2Proof/Machine/Assembler.lean ====
section
/-! DEFINITION. The assembler syntax: one line per cycle, and the pseudo-instruction PULSE (spec/30_encoding.md R72,
R73). -/

namespace Sys2Proof.Machine

/-- An item of a cycle (R72). -/
inductive Item where
  | rise (time : Nat)
  | fall (time : Nat)
  | eidle
  | valid
  | take
  | info
  | ridle
  | reset
deriving DecidableEq, Repr

/-- The operation an item stands for (R72). -/
def itemInstr (it : Item) : Instr :=
  match it with
  | .rise time => .rise time
  | .fall time => .fall time
  | .eidle => .edgeIdle 0
  | .valid => .isValid
  | .take => .takeCode
  | .info => .getInfo
  | .ridle => .readIdle
  | .reset => .reset

/-- The items of a line that stand on a given port. -/
def itemsOn (port : Port) (items : List Item) : List Item :=
  items.filter (fun it => portOf (itemInstr it) == port)

/-- The word a port gets from its items: the given word where there is none, and no word where there is more than one
(R72: at most one edge item, one read item, one RESET). -/
def portWordOf (tickW missing : Nat) (items : List Item) : Option Nat :=
  match items with
  | [] => some missing
  | [it] => if (itemInstr it).wellFormed tickW then some (encodeWord tickW (itemInstr it)) else none
  | _ :: _ :: _ => none

/-- The input of the cycle a list of items stands for; a missing edge item means EDGE_IDLE and a missing read item
READ_IDLE (R72). -/
def assemble (tickW : Nat) (items : List Item) : Option CycleInput :=
  match portWordOf tickW 0 (itemsOn .ctrl items), portWordOf tickW 0 (itemsOn .edge items),
      portWordOf tickW 0 (itemsOn .read items) with
  | some rst, some edge, some read =>
    some { rst := BitVec.ofNat 1 rst, edge := edge, read := BitVec.ofNat 2 read }
  | _, _, _ => none

/-- The word a cycle input carries on a port, as a number. -/
def inputWord (c : CycleInput) (port : Port) : Nat :=
  match port with
  | .edge => c.edge
  | .read => c.read.toNat
  | .ctrl => c.rst.toNat

/-- `PULSE f, r`: two cycles, `FALL f` and then `RISE r` (R73). -/
def pulse (f r : Nat) : List (List Item) := [[.fall f], [.rise r]]

/-! ### The text of a line -/

/-- The text before the first `c`, and the text after it where there is one. -/
def cutAt (c : Char) (text : List Char) : List Char × Option (List Char) :=
  match text with
  | [] => ([], none)
  | x :: xs => if x = c then ([], some xs) else ((x :: (cutAt c xs).1), (cutAt c xs).2)

/-- The pieces of a text between the separators `c`. -/
def splitAt (c : Char) (text : List Char) : List (List Char) :=
  match text with
  | [] => [[]]
  | x :: xs =>
    match splitAt c xs with
    | [] => [[x]]
    | p :: ps => if x = c then [] :: p :: ps else (x :: p) :: ps

/-- The words of a text: what stands between blanks. -/
def wordsOf (text : List Char) : List (List Char) := (splitAt ' ' text).filter (fun w => !w.isEmpty)

/-- The value of a digit in a base of at most 16. -/
def digitValue (base : Nat) (c : Char) : Option Nat :=
  let n := c.toNat
  let v :=
    if 48 ≤ n ∧ n ≤ 57 then n - 48
    else if 97 ≤ n ∧ n ≤ 102 then n - 87
    else if 65 ≤ n ∧ n ≤ 70 then n - 55
    else 16
  if v < base then some v else none

/-- The number a run of digits writes after the digits read so far. -/
def digitsValue (base acc : Nat) (text : List Char) : Option Nat :=
  match text with
  | [] => some acc
  | c :: cs =>
    match digitValue base c with
    | some v => digitsValue base (acc * base + v) cs
    | none => none

/-- A `time`: decimal, or `0x` and hexadecimal (R72). -/
def parseTime (text : List Char) : Option Nat :=
  match text with
  | [] => none
  | ['0', 'x'] => none
  | '0' :: 'x' :: hex => digitsValue 16 0 hex
  | c :: cs => digitsValue 10 0 (c :: cs)

/-- An item (R72). -/
def parseItem (text : List Char) : Option Item :=
  match wordsOf text with
  | [name] =>
    if name = ['E', 'I', 'D', 'L', 'E'] then some .eidle
    else if name = ['V', 'A', 'L', 'I', 'D'] then some .valid
    else if name = ['T', 'A', 'K', 'E'] then some .take
    else if name = ['I', 'N', 'F', 'O'] then some .info
    else if name = ['R', 'I', 'D', 'L', 'E'] then some .ridle
    else if name = ['R', 'E', 'S', 'E', 'T'] then some .reset
    else none
  | [name, time] =>
    match parseTime time with
    | none => none
    | some t =>
      if name = ['R', 'I', 'S', 'E'] then some (.rise t)
      else if name = ['F', 'A', 'L', 'L'] then some (.fall t)
      else none
  | _ => none

/-- The items of a cycle, joined by `+` (R72). -/
def parseItems (pieces : List (List Char)) : Option (List Item) :=
  match pieces with
  | [] => some []
  | p :: ps =>
    match parseItem p, parseItems ps with
    | some it, some its => some (it :: its)
    | _, _ => none

/-- `PULSE f, r` as a text (R73). -/
def parsePulse (text : List Char) : Option (List (List Item)) :=
  match cutAt ',' text with
  | (left, some right) =>
    match wordsOf left, wordsOf right with
    | [name, f], [r] =>
      match parseTime f, parseTime r with
      | some f, some r => if name = ['P', 'U', 'L', 'S', 'E'] then some (pulse f r) else none
      | _, _ => none
    | _, _ => none
  | (_, none) => none

/-- The text of a line without its comment and its label (R72). -/
def lineBody (text : List Char) : List Char :=
  match cutAt ':' (cutAt ';' text).1 with
  | (_, some body) => body
  | (body, none) => body

/-- Assemble each of a line's cycles. -/
def assembleAll (tickW : Nat) (cycles : List (List Item)) : Option (List CycleInput) :=
  match cycles with
  | [] => some []
  | c :: cs =>
    match assemble tickW c, assembleAll tickW cs with
    | some w, some ws => some (w :: ws)
    | _, _ => none

/-- The cycle inputs a line of a program stands for: one, or the two of PULSE (R72, R73). -/
def assembleLine (tickW : Nat) (text : List Char) : Option (List CycleInput) :=
  match parsePulse (lineBody text) with
  | some cycles => assembleAll tickW cycles
  | none =>
    match parseItems (splitAt '+' (lineBody text)) with
    | some items => assembleAll tickW [items]
    | none => none

end Sys2Proof.Machine
end

