-- ==== Sys2Proof/Safety.lean ====
section
/-! DEFINITION. The terms claims are stated in: marked runs, the block's invariants, sequences of operations and the
pulse classes they go through (spec/10_state.md R31; spec/60_exceptions.md R132, R141; spec/40_edge_ops.md R93). -/

namespace Sys2Proof.Machine

/-- No model fault has been recorded: a claim about the hardware may rest on the run (R16, R132). -/
abbrev State.Clean (s : State) : Prop := s.faults = []

/-- Items 2 and 3 of R31: `acc` is empty when Idle, and below the next symbol's position when receiving. Item 1 is the
type of `idx`. -/
abbrev Block.FrameInv (b : Block) : Prop :=
  (b.sync = false → b.idx = 0 ∧ b.acc = 0#24) ∧
    (b.sync = true → b.acc.toNat % 2 ^ (24 - b.idx.val) = 0)

/-- Item 4 of R31: the stored timestamps and durations are at most `MAX_TICK`. -/
abbrev Block.TickInv (maxTick : Nat) (b : Block) : Prop :=
  b.tRise ≤ maxTick ∧ b.tFall ≤ maxTick ∧ b.dHigh ≤ maxTick ∧ b.dLow ≤ maxTick

/-- A T_high of 0 is stored only together with a falling reference of 0 (R86 item 2). -/
abbrev Block.ZeroHighInv (b : Block) : Prop := b.dHigh = 0 → b.tFall = 0

/-- The record of faults is in the order of the cycles, at most one a cycle, and none of a cycle to come (R132,
R133). -/
abbrev FaultsInOrder (now : Nat) (fs : List FaultRecord) : Prop :=
  fs.Pairwise (fun a b => a.cycle < b.cycle) ∧ ∀ r ∈ fs, r.cycle < now

/-- The invariant of the machine. -/
abbrev State.Inv (s : State) : Prop :=
  s.params.Wf ∧ s.block.FrameInv ∧ s.block.TickInv s.params.maxTick ∧ s.block.ZeroHighInv ∧
    FaultsInOrder s.cycle s.faults

/-- The state machine's Idle (R30). -/
abbrev Block.Idle (b : Block) : Prop := b.sync = false

/-- The state machine's Receiving(n) (R30). -/
abbrev Block.Receiving (n : Nat) (b : Block) : Prop := b.sync = true ∧ b.idx.val = n

/-- Operations performed one after another; the cycle rule orders the operations of a cycle so (R50, R153). -/
def execAll (is : List Instr) (s : State) : Host.Outcome State Fault Refusal :=
  match is with
  | [] => .next s
  | i :: rest => andThen (exec i s) (execAll rest)

/-- The class an operation is given in a state: that of its pulse pair for a RISE in range, none otherwise (R83,
R90). -/
def classOf (i : Instr) (s : State) : List PulseClass :=
  match i with
  | .rise now => if inRange s.params now then [riseClass s.params now s.block] else []
  | .edgeIdle _ => []
  | .fall _ => []
  | .edgeReserved _ => []
  | .readIdle => []
  | .isValid => []
  | .takeCode => []
  | .getInfo => []
  | .reset => []

/-- The classes of the RISE operations of a sequence, in order (R93). -/
def classesOf (is : List Instr) (s : State) : List PulseClass :=
  match is with
  | [] => []
  | i :: rest =>
    classOf i s ++
      (match exec i s with
        | .next t => classesOf rest t
        | .fault _ => []
        | .refused _ => [])

/-- `code` holds the bits of 24 symbols, the first symbol in bit 23: bit `23 - i` is the bit of symbol `i` (R43,
R93). -/
abbrev CarriesSymbols (code : Frame) (syms : List PulseClass) : Prop :=
  syms.length = 24 ∧ (∀ c ∈ syms, isSymbol c = true) ∧
    ∀ i (h : i < syms.length), code.getLsbD (23 - i) = symbolBit syms[i]

/-- A sequence of operations without RESET (R93). -/
abbrev NoReset (is : List Instr) : Prop := ∀ i ∈ is, i ≠ Instr.reset

/-- The operation is the RISE that completes a frame: in range, in Receiving(23), on a symbol (R91). -/
def completes (i : Instr) (s : State) : Bool :=
  s.block.sync && decide (s.block.idx.val = 23) && (classOf i s).any isSymbol

/-- No operation of a sequence completes a frame. -/
def noneCompletes (is : List Instr) (s : State) : Bool :=
  match is with
  | [] => true
  | i :: rest =>
    !completes i s &&
      (match exec i s with
        | .next t => noneCompletes rest t
        | .fault _ => true
        | .refused _ => true)

/-- The operations the next `n` cycles present without RESET, in the order they take effect (R50, R153). -/
def opsOfCycles (n : Nat) (s : State) : List Instr :=
  match n with
  | 0 => []
  | k + 1 => fetchRead s :: fetchEdge s :: opsOfCycles k (endCycle s)

/-- The timestamp of the true time `t` under the tick source contract: the counter counts `0 .. MAX_TICK-1` and
returns to 0 (R141). -/
def tickAt (maxTick t : Nat) : Nat := t % maxTick

/-- The operations of a line under the edge and tick contracts (R140, R141): from a rising edge at the true time `t`,
each pulse `(h, l)` is high for `h` ticks and then low for `l`; its falling edge and the rising edge that ends it are
presented once each, in order, with the counter's values. -/
def lineOps (maxTick t : Nat) (pulses : List (Nat × Nat)) : List Instr :=
  match pulses with
  | [] => []
  | (h, l) :: rest =>
    .fall (tickAt maxTick (t + h)) :: .rise (tickAt maxTick (t + h + l)) :: lineOps maxTick (t + h + l) rest

/-- Every interval between successive edges is positive and shorter than one period (R141, R158). -/
abbrev ShortPulses (maxTick : Nat) (pulses : List (Nat × Nat)) : Prop :=
  ∀ p ∈ pulses, (0 < p.1 ∧ p.1 < maxTick) ∧ 0 < p.2 ∧ p.2 < maxTick

end Sys2Proof.Machine
end

