-- ==== Sys2Proof/Certificates/Slice0/Obligations.lean ====
section
/-! DEFINITION. The statements for the provers, file by file of the specification's rules. -/

open Sys2Proof Sys2Proof.Machine

/-! ### Encodings (spec/30_encoding.md) -/

/-- Words of programs P1, P2 and P5 (spec/95_test_vectors.md), of the READ format and of the CTRL format stand for the
operations of R63 to R65. -/
def Obligations.SampleWordsDecode : Prop :=
  decode 16 .edge 0x1044C = .ok (.fall 1100) ∧ decode 16 .edge 0x21068 = .ok (.rise 4200) ∧
    decode 16 .edge 0x00000 = .ok (.edgeIdle 0) ∧ decode 16 .edge 0x30DAC = .ok (.edgeReserved 3500) ∧
    decode 16 .read 0b00 = .ok .readIdle ∧ decode 16 .read 0b01 = .ok .isValid ∧
    decode 16 .read 0b10 = .ok .takeCode ∧ decode 16 .read 0b11 = .ok .getInfo ∧
    decode 16 .ctrl 1 = .ok .reset

/-- R63: the EDGE word with `op` above the `TICK_W` bits of `time` stands for the operation of the `op` table, with
`now = edge_time`. -/
def Obligations.EdgeOpFieldSelectsOperation : Prop :=
  ∀ tickW time, time < 2 ^ tickW →
    decode tickW .edge (0 * 2 ^ tickW + time) = .ok (.edgeIdle time) ∧
    decode tickW .edge (1 * 2 ^ tickW + time) = .ok (.fall time) ∧
    decode tickW .edge (2 * 2 ^ tickW + time) = .ok (.rise time) ∧
    decode tickW .edge (3 * 2 ^ tickW + time) = .ok (.edgeReserved time)

/-- R64: the four values of `rd_op`, with no reserved one. -/
def Obligations.ReadWordsAreAllAssigned : Prop :=
  (∀ tickW, decode tickW .read 0b00 = .ok .readIdle ∧ decode tickW .read 0b01 = .ok .isValid ∧
    decode tickW .read 0b10 = .ok .takeCode ∧ decode tickW .read 0b11 = .ok .getInfo) ∧
    ∀ tickW (w : ReadWord), ∃ i, portOf i = .read ∧ decode tickW .read w.toNat = .ok i

/-- Decoding an encoded well-formed operation gives it back, at every tick width and every operand value (R62 to
R65). -/
def Obligations.DecodeOfEncodeIsIdentity : Prop :=
  ∀ tickW (i : Instr), i.wellFormed tickW = true →
    decode tickW (encode tickW i).1 (encode tickW i).2 = .ok i

/-- Encoding a decoded word gives back its port and the word: each word has one meaning (R70, R71). -/
def Obligations.EncodeOfDecodeIsIdentity : Prop :=
  ∀ tickW port w (i : Instr), decode tickW port w = .ok i →
    i.wellFormed tickW = true ∧ encode tickW i = (port, w)

/-! ### The comparator and the classifier (spec/40_edge_ops.md, sections 1 and 2) -/

/-- R80: the duration with wraparound; between timestamps in the domain it lies in `[0, MAX_TICK]` and fits
`TICK_W` bits. -/
def Obligations.DurationFormula : Prop :=
  ∀ p : Params, p.Wf → ∀ start stop, start ≤ p.maxTick → stop ≤ p.maxTick →
    dur p.maxTick start stop = (if stop ≤ start then (p.maxTick - start) + stop else stop - start) ∧
    dur p.maxTick start stop ≤ p.maxTick ∧ dur p.maxTick start stop < 2 ^ p.tickW

/-- R82: the five properties of `dur`, and the tick that a counter of period `MAX_TICK + 1` loses at a wrap. -/
def Obligations.DurationProperties : Prop :=
  ∀ m, 1 ≤ m →
    (∀ a b, a < b → b ≤ m → dur m a b = b - a) ∧
    (∀ a b, b < a → a ≤ m → dur m a b = m - (a - b)) ∧
    (∀ t e, dur m (t % m) ((t + e) % m) % m = e % m) ∧
    (∀ a, a ≤ m → dur m a a = m) ∧
    (∀ a b, a ≤ m → b ≤ m → (dur m a b = 0 ↔ a = m ∧ b = 0)) ∧
    (∀ t e k, dur m (t % m) ((t + e + k * m) % m) = dur m (t % m) ((t + e) % m)) ∧
    (∀ a e, a ≤ m → 0 < e → e ≤ m → (a + e) % (m + 1) < a → dur m a ((a + e) % (m + 1)) = e - 1) ∧
    (dur 65535 65530 5 = 10 ∧ dur 65535 0 10 = 10)

/-- R85 with the constants of R10: the categories in the order they are tested, under each profile. -/
def Obligations.ClassifierFollowsThresholds : Prop :=
  ∀ th tl,
    classify .low th tl =
      (if 28 * th ≤ tl ∧ tl ≤ 34 * th then .sync
        else if 1 * th ≤ tl ∧ tl ≤ 5 * th then .zero
        else if 1 * tl ≤ th ∧ th ≤ 5 * tl then .one
        else .invalid) ∧
    classify .high th tl =
      (if 29 * th ≤ tl ∧ tl ≤ 32 * th then .sync
        else if 2 * th ≤ tl ∧ tl ≤ 4 * th then .zero
        else if 2 * tl ≤ th ∧ th ≤ 4 * tl then .one
        else .invalid)

/-- R86 items 1 to 5, but for the reachability of `(0, 0)`: equal and zero operands, the boundary ratios, and the gap
between the symbol range and the sync range. -/
def Obligations.ClassifierCornerCases : Prop :=
  (∀ p, classify p 0 0 = .sync) ∧
  (∀ t, 0 < t → classify .low t t = .zero ∧ classify .high t t = .invalid) ∧
  (∀ p t, 0 < t → classify p 0 t = .invalid ∧ classify p t 0 = .invalid) ∧
  (∀ t, 0 < t →
    classify .low t (27 * t) = .invalid ∧ classify .low t (28 * t) = .sync ∧
    classify .low t (34 * t) = .sync ∧ classify .low t (35 * t) = .invalid ∧
    classify .low t (5 * t) = .zero ∧ classify .low t (6 * t) = .invalid ∧
    classify .low (5 * t) t = .one ∧ classify .low (6 * t) t = .invalid) ∧
  (∀ t, 0 < t →
    classify .high t (28 * t) = .invalid ∧ classify .high t (29 * t) = .sync ∧
    classify .high t (32 * t) = .sync ∧ classify .high t (33 * t) = .invalid ∧
    classify .high t (2 * t) = .zero ∧ classify .high t (4 * t) = .zero ∧
    classify .high t (5 * t) = .invalid ∧
    classify .high (2 * t) t = .one ∧ classify .high (4 * t) t = .one) ∧
  (∀ th tl, 5 * th < tl → tl < 28 * th → classify .low th tl = .invalid) ∧
  (∀ th tl, 4 * th < tl → tl < 29 * th → classify .high th tl = .invalid)

/-- R86 item 2: in every state that meets the invariant, no admissible RISE classifies the pair `(0, 0)`. -/
def Obligations.ZeroPairIsNeverClassified : Prop :=
  ∀ s : State, s.Inv → ∀ now, now ≤ s.params.maxTick →
    ¬ (s.block.dHigh = 0 ∧ dur s.params.maxTick s.block.tFall now = 0)

/-! ### The edge operations (spec/40_edge_ops.md, sections 3 and 4) -/

/-- R88: EDGE_IDLE is the EDGE word with `op = 00`, whatever its time, and has no effect; a cycle with EDGE_IDLE and
READ_IDLE leaves the block and the record of faults unchanged. -/
def Obligations.EdgeIdleHasNoEffect : Prop :=
  (∀ tickW time, time < 2 ^ tickW → decode tickW .edge time = .ok (.edgeIdle time)) ∧
  (∀ time (s : State), exec (.edgeIdle time) s = .next s) ∧
  ∀ (s : State) (time : Nat), portRst s = false → fetchEdge s = .edgeIdle time → fetchRead s = .readIdle →
    ∃ t, step s = .next t ∧ t.block = s.block ∧ t.faults = s.faults

/-- R89: FALL stores T_high and the new falling reference and nothing else; out of range it writes no state element
and records `TimestampRange` (R81, R132). The stored reference is in the domain of `dur` (R80, R31 item 4). -/
def Obligations.FallStoresHighDuration : Prop :=
  (∀ tickW now, now < 2 ^ tickW → decode tickW .edge (1 * 2 ^ tickW + now) = .ok (.fall now)) ∧
  ∀ (s : State) (now : Nat),
    (s.block.tRise ≤ s.params.maxTick → now ≤ s.params.maxTick → exec (.fall now) s = .next { s with
      block := { s.block with
        dHigh := if now ≤ s.block.tRise then (s.params.maxTick - s.block.tRise) + now else now - s.block.tRise
        tFall := now } }) ∧
    (s.params.maxTick < now → exec (.fall now) s = .next { s with
      faults := s.faults ++ [⟨s.cycle, .timestampRange, 1 * 2 ^ s.params.tickW + now⟩] })

/-- R91 and the table of R92: what a RISE in range does to the whole state, by the class of its pulse pair and the
state of the frame machine; out of range it writes no state element and records `TimestampRange` (R81, R132). The stored
reference is in the domain of `dur` (R80, R31 item 4). -/
def Obligations.RiseRunsFrameMachine : Prop :=
  (∀ tickW now, now < 2 ^ tickW → decode tickW .edge (2 * 2 ^ tickW + now) = .ok (.rise now)) ∧
  ∀ (s : State) (now tl : Nat) (c : PulseClass) (b : Block) (a : Frame),
    s.block.tFall ≤ s.params.maxTick →
    tl = (if now ≤ s.block.tFall then (s.params.maxTick - s.block.tFall) + now else now - s.block.tFall) →
    c = classify s.params.profile s.block.dHigh tl →
    b = { s.block with dLow := tl, tRise := now } →
    a = (if c = .one then s.block.acc ||| (1#24 <<< (23 - s.block.idx.val)) else s.block.acc) →
    (now ≤ s.params.maxTick → c = .sync →
      exec (.rise now) s = .next { s with block := { b with sync := true, idx := 0, acc := 0#24 } }) ∧
    (now ≤ s.params.maxTick → c ≠ .sync → s.block.sync = false →
      exec (.rise now) s = .next { s with block := b }) ∧
    (now ≤ s.params.maxTick → c = .invalid → s.block.sync = true →
      exec (.rise now) s = .next { s with block := { b with sync := false, idx := 0, acc := 0#24 } }) ∧
    (now ≤ s.params.maxTick → c = .zero ∨ c = .one → s.block.sync = true →
      ∀ h : s.block.idx.val + 1 < 24,
        exec (.rise now) s = .next { s with block := { b with idx := ⟨s.block.idx.val + 1, h⟩, acc := a } }) ∧
    (now ≤ s.params.maxTick → c = .zero ∨ c = .one → s.block.sync = true → s.block.idx.val = 23 →
      exec (.rise now) s = .next { s with
        block := { b with sync := false, idx := 0, acc := 0#24, code := a, ready := true } }) ∧
    (s.params.maxTick < now → exec (.rise now) s = .next { s with
      faults := s.faults ++ [⟨s.cycle, .timestampRange, 2 * 2 ^ s.params.tickW + now⟩] })

/-- R68 and R132: the reserved EDGE word changes no state element; the model records `EdgeOpReserved` with the cycle
number and the word. -/
def Obligations.EdgeReservedOnlyRecordsFault : Prop :=
  ∀ (s : State) (time : Nat), exec (.edgeReserved time) s = .next { s with
    faults := s.faults ++ [⟨s.cycle, .edgeOpReserved, 3 * 2 ^ s.params.tickW + time⟩] }

/-- R97: two FALLs in a row both measure from the same rising reference, and the second overwrites `d_high`; two RISEs in
a row both measure from the same falling reference and both classify against the same T_high, and the second runs the
frame machine on its own class. The timestamps are any two in the domain, in either order (R80, R31 item 4). -/
def Obligations.EdgeOrderIsNotChecked : Prop :=
  ∀ (s : State) (a b : Nat), s.block.tRise ≤ s.params.maxTick → s.block.tFall ≤ s.params.maxTick →
    a ≤ s.params.maxTick → b ≤ s.params.maxTick →
    (∃ t u, exec (.fall a) s = .next t ∧ exec (.fall b) t = .next u ∧
      t.block.dHigh = dur s.params.maxTick s.block.tRise a ∧
      u = { s with block := { s.block with dHigh := dur s.params.maxTick s.block.tRise b, tFall := b } }) ∧
    (∃ t u, exec (.rise a) s = .next t ∧ exec (.rise b) t = .next u ∧
      classOf (.rise a) s = [classify s.params.profile s.block.dHigh (dur s.params.maxTick s.block.tFall a)] ∧
      classOf (.rise b) t = [classify s.params.profile s.block.dHigh (dur s.params.maxTick s.block.tFall b)] ∧
      t.block.dLow = dur s.params.maxTick s.block.tFall a ∧
      u.block.dLow = dur s.params.maxTick s.block.tFall b ∧ u.block.tRise = b ∧
      u.block.tFall = s.block.tFall ∧ u.block.dHigh = s.block.dHigh ∧
      u = { t with
        block :=
          frameStep (classify s.params.profile s.block.dHigh (dur s.params.maxTick s.block.tFall b))
            { t.block with dLow := dur s.params.maxTick s.block.tFall b, tRise := b } })

/-- Under the tick source contract (R141), a FALL `h` ticks after the latest rising edge and a RISE `l` ticks after that
FALL store exactly `h` and `l`, across a wrap or not, when both are positive and shorter than one period (R82, R158). -/
def Obligations.PulseWidthsAreMeasuredExactly : Prop :=
  ∀ (s : State) (t h l : Nat), s.params.Wf → s.block.tRise = tickAt s.params.maxTick t →
    0 < h → h < s.params.maxTick → 0 < l → l < s.params.maxTick →
    ∃ u v, exec (.fall (tickAt s.params.maxTick (t + h))) s = .next u ∧
      exec (.rise (tickAt s.params.maxTick (t + h + l))) u = .next v ∧
      v.block.dHigh = h ∧ v.block.dLow = l ∧ v.block.tRise = tickAt s.params.maxTick (t + h + l) ∧
      v.faults = s.faults

/-! ### The laws of the frame machine (spec/40_edge_ops.md, section 5) -/

/-- R93: from any state, one SYNC and then 24 symbols, in a sequence of operations without RESET that ends with the
24th of those RISEs, publish the code whose bit `23 - i` is symbol `i`, and leave the machine Idle. -/
def Obligations.FrameLaw : Prop :=
  ∀ (is : List Instr) (now : Nat) (s : State) (syms : List PulseClass),
    NoReset is → now ≤ s.params.maxTick →
    classesOf (is ++ [.rise now]) s = .sync :: syms → syms.length = 24 → (∀ c ∈ syms, c = .zero ∨ c = .one) →
    ∃ t, execAll (is ++ [.rise now]) s = .next t ∧ t.block.ready = true ∧ CarriesSymbols t.block.code syms ∧
      t.block.Idle

/-- R94: an unclassifiable pair after a SYNC and `k ≤ 23` symbols discards the frame: the machine is Idle, and `code`
and `ready` are as they were; and from then on, without RESET, no operation completes a frame unless a new SYNC is
followed by 24 symbols. -/
def Obligations.AbortLaw : Prop :=
  ∀ (is : List Instr) (s : State) (syms : List PulseClass),
    (∀ i ∈ is, portOf i = .edge) → classesOf is s = .sync :: syms ++ [.invalid] → syms.length ≤ 23 →
    (∀ c ∈ syms, c = .zero ∨ c = .one) →
    ∃ t, execAll is s = .next t ∧ t.block.Idle ∧ t.block.idx = 0 ∧ t.block.acc = 0#24 ∧
      t.block.code = s.block.code ∧ t.block.ready = s.block.ready ∧
      ∀ js : List Instr, NoReset js → noneCompletes js t = false →
        ∃ pre mid post, classesOf js t = pre ++ .sync :: (mid ++ post) ∧ mid.length = 24 ∧
          ∀ c ∈ mid, c = .zero ∨ c = .one

/-- R98: in Idle, whatever operations come without RESET, the machine stays Idle and latches nothing until a RISE
classifies SYNC. -/
def Obligations.IdleWaitsForSync : Prop :=
  ∀ (is : List Instr) (s : State), s.block.Idle → NoReset is → .sync ∉ classesOf is s →
    ∃ t, execAll is s = .next t ∧ t.block.Idle ∧ t.block.idx = s.block.idx ∧ t.block.acc = s.block.acc ∧
      t.block.code = s.block.code ∧ (t.block.ready = true → s.block.ready = true)

/-- R29: a `ready` that was 0 in Idle and is 1 later, without RESET, comes from a fully valid frame: a SYNC and 24
symbols in a row, whose bits `code` carries. -/
def Obligations.ReadyMeansFullyValidFrame : Prop :=
  ∀ (is : List Instr) (s t : State), s.block.Idle → s.block.ready = false → NoReset is →
    execAll is s = .next t → t.block.ready = true →
    ∃ pre mid post, classesOf is s = pre ++ .sync :: (mid ++ post) ∧ CarriesSymbols t.block.code mid

/-- R156: after RESET, no RISE before a FALL is a sync pulse: each classifies INVALID. -/
def Obligations.NoSyncBeforeFirstFall : Prop :=
  ∀ (is : List Instr) (s t : State), s.params.Wf → exec .reset s = .next t →
    (∀ i ∈ is, ∀ now, i ≠ .fall now) → ∀ c ∈ classesOf is t, c = .invalid

/-- R83 with the contracts of R140 and R141: on a line whose intervals are shorter than one period, each RISE gets the
class of its pulse's true widths, across a wrap of the counter or not. -/
def Obligations.LineIsClassifiedByTrueWidths : Prop :=
  ∀ (pulses : List (Nat × Nat)) (s : State) (t : Nat), s.params.Wf → s.block.tRise = tickAt s.params.maxTick t →
    ShortPulses s.params.maxTick pulses →
    classesOf (lineOps s.params.maxTick t pulses) s = pulses.map (fun p => classify s.params.profile p.1 p.2)

/-- R93 and R152 with the contracts of R140 and R141: from any state whose rising reference is the line's last rising
edge, a line that carries a sync pulse and then 24 symbols, by their true widths, is decoded to the code of those
symbols, with `ready` set and no model fault recorded. -/
def Obligations.TransmittedFrameIsPublished : Prop :=
  ∀ (pulses : List (Nat × Nat)) (s : State) (t : Nat) (syms : List PulseClass), s.params.Wf →
    s.block.tRise = tickAt s.params.maxTick t → ShortPulses s.params.maxTick pulses →
    pulses.map (fun p => classify s.params.profile p.1 p.2) = .sync :: syms → syms.length = 24 →
    (∀ c ∈ syms, c = .zero ∨ c = .one) →
    ∃ u, execAll (lineOps s.params.maxTick t pulses) s = .next u ∧ u.block.ready = true ∧
      CarriesSymbols u.block.code syms ∧ u.block.Idle ∧ u.faults = s.faults

/-! ### The reader operations (spec/45_reader_ops.md) -/

/-- R113: READ_IDLE is `rd_op = 00` and has no effect. -/
def Obligations.ReadIdleHasNoEffect : Prop :=
  (∀ tickW, decode tickW .read 0b00 = .ok .readIdle) ∧ ∀ s : State, exec .readIdle s = .next s

/-- R110: IS_VALID delivers `ready` and writes nothing. -/
def Obligations.IsValidDeliversReady : Prop :=
  (∀ tickW, decode tickW .read 0b01 = .ok .isValid) ∧
  ∀ s : State, exec .isValid s = .next { s with returned := .valid s.block.ready }

/-- R111 and R115: TAKE_CODE delivers the latched code with the `ready` it was taken with, also when that is 0 (a stale
read), and clears `ready`; nothing else changes. -/
def Obligations.TakeCodeDeliversAndClears : Prop :=
  (∀ tickW, decode tickW .read 0b10 = .ok .takeCode) ∧
  ∀ s : State, exec .takeCode s = .next { s with
    returned := .code s.block.code s.block.ready, block := { s.block with ready := false } }

/-- R112 and R67: GET_INFO delivers `remote_id = (code >> 4) & 0xFFFFF` and `key = code & 0xF`, also when `ready` is 0,
and clears `ready`; nothing else changes. -/
def Obligations.GetInfoDeliversAndClears : Prop :=
  (∀ tickW, decode tickW .read 0b11 = .ok .getInfo) ∧
  ∀ s : State, ∃ (remoteId : RemoteId) (key : Key),
    exec .getInfo s = .next { s with
      returned := .info remoteId key s.block.ready, block := { s.block with ready := false } } ∧
    remoteId.toNat = (s.block.code.toNat >>> 4) &&& 0xFFFFF ∧ key.toNat = s.block.code.toNat &&& 0xF

/-- R116 and R117: after a TAKE_CODE, and while no RISE completes a frame and no RESET comes, `ready` stays 0 and a
second TAKE_CODE delivers the same code with `ready_o = 0`. -/
def Obligations.RepeatedTakeDeliversSameCode : Prop :=
  ∀ (is : List Instr) (s t : State), exec .takeCode s = .next t → NoReset is → noneCompletes is t = true →
    t.returned = .code s.block.code s.block.ready ∧
    ∃ u v, execAll is t = .next u ∧ u.block.ready = false ∧ exec .takeCode u = .next v ∧
      v.returned = .code s.block.code false

/-! ### RESET and the cycle (spec/70_reset_and_hazards.md) -/

/-- R150: RESET gives all nine elements the value 0 and leaves recorded faults recorded. -/
def Obligations.ResetZeroesTheBlock : Prop :=
  (∀ tickW, decode tickW .ctrl 1 = .ok .reset) ∧
  ∀ s : State, exec .reset s = .next { s with
    block := { sync := false, idx := 0, acc := 0#24, tRise := 0, tFall := 0, dHigh := 0, dLow := 0,
               code := 0#24, ready := false } }

/-- R34: at the launch state every element is 0 and the machine is Idle; no fault is recorded and nothing is presented.
That the model's own fields start so is the model's choice (log entries 6, 7 and 15). -/
def Obligations.LaunchStateIsReset : Prop :=
  State.reset.block.sync = false ∧ State.reset.block.idx = 0 ∧ State.reset.block.acc = 0#24 ∧
  State.reset.block.tRise = 0 ∧ State.reset.block.tFall = 0 ∧ State.reset.block.dHigh = 0 ∧
  State.reset.block.dLow = 0 ∧ State.reset.block.code = 0#24 ∧ State.reset.block.ready = false ∧
  State.reset.Clean ∧ State.reset.cycle = 0 ∧ fetchRead State.reset = .readIdle ∧
  fetchEdge State.reset = .edgeIdle 0 ∧ portRst State.reset = false

/-- R150: a cycle whose CTRL word is RESET's ignores the EDGE and READ words and raises no fault; the block takes its
reset values; the outputs, and what TAKE_CODE and GET_INFO take from them, show the block as it was. -/
def Obligations.ResetCycleOverridesOtherWords : Prop :=
  (∀ tickW, decode tickW .ctrl 1 = .ok .reset) ∧
  ∀ s : State, s.rstIn.headD 0#1 = 1#1 →
    ∃ t, step s = .next t ∧
      t.block = { sync := false, idx := 0, acc := 0#24, tRise := 0, tFall := 0, dHigh := 0, dLow := 0,
                  code := 0#24, ready := false } ∧
      t.faults = s.faults ∧ t.params = s.params ∧
      t.outputs = { readyO := s.block.ready, codeO := s.block.code,
                    idO := s.block.code.extractLsb' 4 20, keyO := s.block.code.extractLsb' 0 4 } ∧
      (fetchRead s = .takeCode → t.returned = .code s.block.code s.block.ready) ∧
      (fetchRead s = .getInfo →
        t.returned = .info (s.block.code.extractLsb' 4 20) (s.block.code.extractLsb' 0 4) s.block.ready)

/-- R153: a step runs the operations decoded from the cycle's words. Without RESET it is the reader operation on the
state at the start of the cycle, then the edge operation; with RESET it is RESET alone, but for what the outputs and a
reader operation show (for IS_VALID in a RESET cycle, log entry 9). Around them the step latches the outputs and moves on to the next cycle's words. -/
def Obligations.StepRunsDecodedOperations : Prop :=
  ∀ (s : State) (r e : Instr),
    decode s.params.tickW .read (portRead s).toNat = .ok r →
    decode s.params.tickW .edge (portEdge s) = .ok e →
    (portRst s = false →
      ∃ s1 s2, exec r { s with outputs := outputsOf s.block, returned := .nothing } = .next s1 ∧
        exec e s1 = .next s2 ∧
        step s = .next { s2 with
          cycle := s2.cycle + 1, edgeIn := s2.edgeIn.tail, readIn := s2.readIn.tail, rstIn := s2.rstIn.tail }) ∧
    (decode s.params.tickW .ctrl (s.rstIn.headD 0#1).toNat = .ok .reset →
      ∃ s1, exec .reset { s with outputs := outputsOf s.block, returned := readReturn r s.block } = .next s1 ∧
        step s = .next { s1 with
          cycle := s1.cycle + 1, edgeIn := s1.edgeIn.tail, readIn := s1.readIn.tail, rstIn := s1.rstIn.tail })

/-- At the table's `TICK_W = 16`, placing a table word where the step fetches makes the next step run the operation the
decoder reads from it, and no other (R71, R153). -/
def Obligations.PlacedTableWordIsRun : Prop :=
  ∀ (s : State) (nbits w : Nat) (i : Instr), s.params.tickW = 16 → decodeTableWord nbits w = some i →
    ∃ s1, exec i (beginCycle (s.withFetchWord nbits w)) = .next s1 ∧
      step (s.withFetchWord nbits w) = .next (endCycle s1)

/-- R16 and R130: every operation completes, and every cycle has a next state: no step faults, is refused or stalls. -/
def Obligations.EveryOperationAndStepCompletes : Prop :=
  (∀ (i : Instr) (s : State), ∃ t, exec i s = .next t) ∧ ∀ s : State, ∃ t, step s = .next t

/-- R114 and R67: the outputs of a cycle show the block as it stood at the cycle's start, and the ID and key fields
together are the code. -/
def Obligations.OutputsShowStartOfCycle : Prop :=
  ∀ s t : State, step s = .next t →
    t.outputs.readyO = s.block.ready ∧ t.outputs.codeO = s.block.code ∧
    t.outputs.idO.toNat = s.block.code.toNat / 16 ∧ t.outputs.keyO.toNat = s.block.code.toNat % 16 ∧
    t.outputs.idO ++ t.outputs.keyO = t.outputs.codeO

/-- R153: "reader, then edge" is the parallel update of the registers from the state at the start of the cycle, in
which set wins over clear. -/
def Obligations.CycleIsParallelUpdate : Prop :=
  ∀ (s e t : State), portRst s = false → exec (fetchEdge s) s = .next e → step s = .next t →
    t.block = { e.block with
      ready := if completes (fetchEdge s) s then true
        else if fetchRead s = .takeCode ∨ fetchRead s = .getInfo then false else s.block.ready } ∧
    (completes (fetchEdge s) s = true → e.block.ready = true) ∧ t.faults = e.faults

/-- R154 and R52: when a frame completes in the cycle of a reader operation, the reader gets the previous code with the
previous `ready`, and the new frame is latched with `ready = 1`. -/
def Obligations.CompletionSurvivesSameCycleRead : Prop :=
  ∀ s : State, portRst s = false → completes (fetchEdge s) s = true →
    ∃ t u, step s = .next t ∧ exec (fetchEdge s) s = .next u ∧ t.block.ready = true ∧ t.block.code = u.block.code ∧
      (fetchRead s = .isValid → t.returned = .valid s.block.ready) ∧
      (fetchRead s = .takeCode → t.returned = .code s.block.code s.block.ready) ∧
      (fetchRead s = .getInfo →
        t.returned = .info (s.block.code.extractLsb' 4 20) (s.block.code.extractLsb' 0 4) s.block.ready)

/-- R119: between resets, only the RISE that completes a frame sets `ready` to 1 and writes `code`, and only TAKE_CODE
and GET_INFO set `ready` to 0. -/
def Obligations.SoleWritersOfTheLatch : Prop :=
  ∀ s t : State, portRst s = false → step s = .next t →
    (s.block.ready = false → t.block.ready = true → completes (fetchEdge s) s = true) ∧
    (t.block.code ≠ s.block.code → completes (fetchEdge s) s = true) ∧
    (s.block.ready = true → t.block.ready = false → fetchRead s = .takeCode ∨ fetchRead s = .getInfo)

/-- R96 and R90: without RESET, a cycle whose edge operation is no RISE changes none of `sync`, `idx`, `acc`, nor
`t_rise`, `d_low` and `code`. -/
def Obligations.FrameStateChangesOnlyInRise : Prop :=
  ∀ s t : State, portRst s = false → step s = .next t → (∀ now, fetchEdge s ≠ .rise now) →
    t.block.sync = s.block.sync ∧ t.block.idx = s.block.idx ∧ t.block.acc = s.block.acc ∧
    t.block.tRise = s.block.tRise ∧ t.block.dLow = s.block.dLow ∧ t.block.code = s.block.code

/-- R53: once `ready` is 1, it is 1 at the start of every later cycle up to the reader's next TAKE_CODE or GET_INFO,
unless RESET comes first. -/
def Obligations.ReadyStaysUntilTaken : Prop :=
  ∀ (n : Nat) (s : State), s.block.ready = true →
    (∀ w ∈ s.rstIn.take n, w = 0#1) → (∀ w ∈ s.readIn.take n, w = 0b00#2 ∨ w = 0b01#2) →
    ∃ t, Host.Core.run Sys2Proof.core n s = .next t ∧ t.block.ready = true

/-- R50: in cycles without RESET the operations take effect as if performed one after another, in each cycle the reader
operation and then the edge operation: the block after `n` steps is the block after that sequence. -/
def Obligations.RunIsTheSequenceOfItsOperations : Prop :=
  ∀ (n : Nat) (s : State), (∀ w ∈ s.rstIn.take n, w = 0#1) →
    ∃ t u, Host.Core.run Sys2Proof.core n s = .next t ∧ execAll (opsOfCycles n s) s = .next u ∧ t.block = u.block

/-! ### Model faults, parameters, agents (spec/60_exceptions.md, spec/10_state.md) -/

/-- R132 and R133: which model fault a cycle records, and that it records at most one, with the cycle's number and
EDGE word, after all earlier ones. -/
def Obligations.FaultRecordOfACycle : Prop :=
  ∀ s t : State, step s = .next t →
    (portRst s = true → t.faults = s.faults) ∧
    (portRst s = false → ∀ time, fetchEdge s = .edgeIdle time → t.faults = s.faults) ∧
    (portRst s = false → ∀ time, fetchEdge s = .edgeReserved time →
      t.faults = s.faults ++ [⟨s.cycle, .edgeOpReserved, portEdge s⟩]) ∧
    (portRst s = false → ∀ now, fetchEdge s = .fall now ∨ fetchEdge s = .rise now →
      t.faults = s.faults ++
        (if s.params.maxTick < now then [⟨s.cycle, .timestampRange, portEdge s⟩] else []))

/-- R15 and R133: in a cycle that records a fault, the edge operation writes no state element and the reader operation
is performed. -/
def Obligations.FaultingEdgeLeavesReaderOperation : Prop :=
  ∀ s t : State, step s = .next t → t.faults ≠ s.faults →
    t.block = { s.block with
      ready := if fetchRead s = .takeCode ∨ fetchRead s = .getInfo then false else s.block.ready } ∧
    t.returned = readReturn (fetchRead s) s.block

/-- R81: at `MAX_TICK = 2^TICK_W - 1` no presented timestamp is out of range, so the only fault a step can record is
`EdgeOpReserved`. -/
def Obligations.DefaultMaxTickNeverFaultsOnTime : Prop :=
  ∀ s t : State, s.params.maxTick = 2 ^ s.params.tickW - 1 → step s = .next t →
    ∀ r ∈ t.faults, r ∈ s.faults ∨ r.fault = .edgeOpReserved

/-- R35 and R160: no step changes the build parameters; each step uses up one word of each agent and one cycle
number (the model's own fields, log entries 7 and 15). -/
def Obligations.StepKeepsParametersAndAdvances : Prop :=
  ∀ s t : State, step s = .next t →
    t.params = s.params ∧ t.cycle = s.cycle + 1 ∧
    t.edgeIn = s.edgeIn.tail ∧ t.readIn = s.readIn.tail ∧ t.rstIn = s.rstIn.tail

/-- R27: `d_low` has no effect on anything else: from states that differ only in `d_low`, a step leads to states that
differ at most in `d_low`. -/
def Obligations.LowDurationHasNoObserver : Prop :=
  ∀ (s t : State) (x : Nat), step s = .next t →
    ∃ y, step { s with block := { s.block with dLow := x } } = .next { t with block := { t.block with dLow := y } }

/-- R139: the edge source is the sole writer of the decode state: whatever the reader presents, and whatever the flag
and the delivered values are, a step leads to the same block but for `ready`, and to the same record of faults. -/
def Obligations.ReaderCannotAffectDecoding : Prop :=
  ∀ (s t : State) (ready : Bool) (readIn : List ReadWord) (outputs : Outputs) (returned : Returned),
    step s = .next t →
    ∃ u, step { s with block := { s.block with ready := ready }, readIn := readIn, outputs := outputs,
                       returned := returned } = .next u ∧
      u.block = { t.block with ready := u.block.ready } ∧ u.faults = t.faults ∧ u.params = t.params

/-! ### The invariant (spec/10_state.md R31) -/

/-- R31 at the launch state of every instance with legal parameters, the model's own among them. -/
def Obligations.LaunchStateMeetsInvariant : Prop :=
  (∀ p : Params, p.Wf → (State.resetOf p).Inv) ∧ State.reset.Inv

/-- R31: from every state that meets the invariant, a step leads to a state that meets it. -/
def Obligations.StepKeepsInvariant : Prop :=
  ∀ s t : State, s.Inv → step s = .next t → t.Inv

/-! ### The assembler (spec/30_encoding.md R72, R73) -/

/-- R72: the assembler accepts exactly the cycles with at most one edge item, one read item and one RESET whose times
fit the tick width. -/
def Obligations.AssemblerAcceptsOneItemPerPort : Prop :=
  ∀ (tickW : Nat) (items : List Item),
    (∃ c, assemble tickW items = some c) ↔
      (∀ port, (itemsOn port items).length ≤ 1) ∧ ∀ it ∈ items, (itemInstr it).wellFormed tickW = true

/-- R72: an assembled cycle carries each item's operation on that operation's port, and the idle word, 0, on a port
with no item. -/
def Obligations.AssembledCycleCarriesItsItems : Prop :=
  ∀ (tickW : Nat) (items : List Item) (c : CycleInput), assemble tickW items = some c →
    (∀ it ∈ items,
      decode tickW (portOf (itemInstr it)) (inputWord c (portOf (itemInstr it))) = .ok (itemInstr it)) ∧
    ∀ port, itemsOn port items = [] → inputWord c port = 0

/-- R73: `PULSE f, r` expands to two cycles, `FALL f` and then `RISE r`; presented to the block, its two steps run
those two operations. -/
def Obligations.PulseIsFallThenRise : Prop :=
  ∀ (s : State) (f r : Nat), f < 2 ^ s.params.tickW → r < 2 ^ s.params.tickW →
    ∃ cs t u, assembleAll s.params.tickW (pulse f r) = some cs ∧ cs.length = 2 ∧
      Host.Core.run Sys2Proof.core 2 (withInputs cs s) = .next t ∧ execAll [.fall f, .rise r] s = .next u ∧
      t.block = u.block
end

