-- ==== Sys2Proof/Laws/State.lean ====
section
/-! SUPPORT. One lemma per field per update of the state and of the block. -/

namespace Sys2Proof.Machine

/-! ### `setBlock` -/

@[simp] theorem setBlock_params (b : Block) (s : State) : (setBlock b s).params = s.params := rfl
@[simp] theorem setBlock_block (b : Block) (s : State) : (setBlock b s).block = b := rfl
@[simp] theorem setBlock_cycle (b : Block) (s : State) : (setBlock b s).cycle = s.cycle := rfl
@[simp] theorem setBlock_faults (b : Block) (s : State) : (setBlock b s).faults = s.faults := rfl
@[simp] theorem setBlock_edgeIn (b : Block) (s : State) : (setBlock b s).edgeIn = s.edgeIn := rfl
@[simp] theorem setBlock_readIn (b : Block) (s : State) : (setBlock b s).readIn = s.readIn := rfl
@[simp] theorem setBlock_rstIn (b : Block) (s : State) : (setBlock b s).rstIn = s.rstIn := rfl
@[simp] theorem setBlock_outputs (b : Block) (s : State) : (setBlock b s).outputs = s.outputs := rfl
@[simp] theorem setBlock_returned (b : Block) (s : State) : (setBlock b s).returned = s.returned := rfl

/-! ### `raiseFault` -/

@[simp] theorem raiseFault_params (f : Fault) (w : Nat) (s : State) : (raiseFault f w s).params = s.params := rfl
@[simp] theorem raiseFault_block (f : Fault) (w : Nat) (s : State) : (raiseFault f w s).block = s.block := rfl
@[simp] theorem raiseFault_cycle (f : Fault) (w : Nat) (s : State) : (raiseFault f w s).cycle = s.cycle := rfl
@[simp] theorem raiseFault_faults (f : Fault) (w : Nat) (s : State) : (raiseFault f w s).faults = s.faults ++ [{ cycle := s.cycle, fault := f, word := w }] := rfl
@[simp] theorem raiseFault_edgeIn (f : Fault) (w : Nat) (s : State) : (raiseFault f w s).edgeIn = s.edgeIn := rfl
@[simp] theorem raiseFault_readIn (f : Fault) (w : Nat) (s : State) : (raiseFault f w s).readIn = s.readIn := rfl
@[simp] theorem raiseFault_rstIn (f : Fault) (w : Nat) (s : State) : (raiseFault f w s).rstIn = s.rstIn := rfl
@[simp] theorem raiseFault_outputs (f : Fault) (w : Nat) (s : State) : (raiseFault f w s).outputs = s.outputs := rfl
@[simp] theorem raiseFault_returned (f : Fault) (w : Nat) (s : State) : (raiseFault f w s).returned = s.returned := rfl

/-! ### `deliver` -/

@[simp] theorem deliver_params (r : Returned) (s : State) : (deliver r s).params = s.params := rfl
@[simp] theorem deliver_block (r : Returned) (s : State) : (deliver r s).block = s.block := rfl
@[simp] theorem deliver_cycle (r : Returned) (s : State) : (deliver r s).cycle = s.cycle := rfl
@[simp] theorem deliver_faults (r : Returned) (s : State) : (deliver r s).faults = s.faults := rfl
@[simp] theorem deliver_edgeIn (r : Returned) (s : State) : (deliver r s).edgeIn = s.edgeIn := rfl
@[simp] theorem deliver_readIn (r : Returned) (s : State) : (deliver r s).readIn = s.readIn := rfl
@[simp] theorem deliver_rstIn (r : Returned) (s : State) : (deliver r s).rstIn = s.rstIn := rfl
@[simp] theorem deliver_outputs (r : Returned) (s : State) : (deliver r s).outputs = s.outputs := rfl
@[simp] theorem deliver_returned (r : Returned) (s : State) : (deliver r s).returned = r := rfl

/-! ### `beginCycle` -/

@[simp] theorem beginCycle_params (s : State) : (beginCycle s).params = s.params := rfl
@[simp] theorem beginCycle_block (s : State) : (beginCycle s).block = s.block := rfl
@[simp] theorem beginCycle_cycle (s : State) : (beginCycle s).cycle = s.cycle := rfl
@[simp] theorem beginCycle_faults (s : State) : (beginCycle s).faults = s.faults := rfl
@[simp] theorem beginCycle_edgeIn (s : State) : (beginCycle s).edgeIn = s.edgeIn := rfl
@[simp] theorem beginCycle_readIn (s : State) : (beginCycle s).readIn = s.readIn := rfl
@[simp] theorem beginCycle_rstIn (s : State) : (beginCycle s).rstIn = s.rstIn := rfl
@[simp] theorem beginCycle_outputs (s : State) : (beginCycle s).outputs = outputsOf s.block := rfl
@[simp] theorem beginCycle_returned (s : State) : (beginCycle s).returned = .nothing := rfl

/-! ### `endCycle` -/

@[simp] theorem endCycle_params (s : State) : (endCycle s).params = s.params := rfl
@[simp] theorem endCycle_block (s : State) : (endCycle s).block = s.block := rfl
@[simp] theorem endCycle_cycle (s : State) : (endCycle s).cycle = s.cycle + 1 := rfl
@[simp] theorem endCycle_faults (s : State) : (endCycle s).faults = s.faults := rfl
@[simp] theorem endCycle_edgeIn (s : State) : (endCycle s).edgeIn = s.edgeIn.tail := rfl
@[simp] theorem endCycle_readIn (s : State) : (endCycle s).readIn = s.readIn.tail := rfl
@[simp] theorem endCycle_rstIn (s : State) : (endCycle s).rstIn = s.rstIn.tail := rfl
@[simp] theorem endCycle_outputs (s : State) : (endCycle s).outputs = s.outputs := rfl
@[simp] theorem endCycle_returned (s : State) : (endCycle s).returned = s.returned := rfl

/-! ### `withInputs` -/

@[simp] theorem withInputs_params (cs : List CycleInput) (s : State) : (withInputs cs s).params = s.params := rfl
@[simp] theorem withInputs_block (cs : List CycleInput) (s : State) : (withInputs cs s).block = s.block := rfl
@[simp] theorem withInputs_cycle (cs : List CycleInput) (s : State) : (withInputs cs s).cycle = s.cycle := rfl
@[simp] theorem withInputs_faults (cs : List CycleInput) (s : State) : (withInputs cs s).faults = s.faults := rfl
@[simp] theorem withInputs_edgeIn (cs : List CycleInput) (s : State) : (withInputs cs s).edgeIn = cs.map (·.edge) := rfl
@[simp] theorem withInputs_readIn (cs : List CycleInput) (s : State) : (withInputs cs s).readIn = cs.map (·.read) := rfl
@[simp] theorem withInputs_rstIn (cs : List CycleInput) (s : State) : (withInputs cs s).rstIn = cs.map (·.rst) := rfl
@[simp] theorem withInputs_outputs (cs : List CycleInput) (s : State) : (withInputs cs s).outputs = s.outputs := rfl
@[simp] theorem withInputs_returned (cs : List CycleInput) (s : State) : (withInputs cs s).returned = s.returned := rfl

/-! ### `presentInput` -/

@[simp] theorem presentInput_params (c : CycleInput) (s : State) : (presentInput c s).params = s.params := rfl
@[simp] theorem presentInput_block (c : CycleInput) (s : State) : (presentInput c s).block = s.block := rfl
@[simp] theorem presentInput_cycle (c : CycleInput) (s : State) : (presentInput c s).cycle = s.cycle := rfl
@[simp] theorem presentInput_faults (c : CycleInput) (s : State) : (presentInput c s).faults = s.faults := rfl
@[simp] theorem presentInput_edgeIn (c : CycleInput) (s : State) : (presentInput c s).edgeIn = c.edge :: s.edgeIn.tail := rfl
@[simp] theorem presentInput_readIn (c : CycleInput) (s : State) : (presentInput c s).readIn = c.read :: s.readIn.tail := rfl
@[simp] theorem presentInput_rstIn (c : CycleInput) (s : State) : (presentInput c s).rstIn = c.rst :: s.rstIn.tail := rfl
@[simp] theorem presentInput_outputs (c : CycleInput) (s : State) : (presentInput c s).outputs = s.outputs := rfl
@[simp] theorem presentInput_returned (c : CycleInput) (s : State) : (presentInput c s).returned = s.returned := rfl

/-! ### `openFrame` -/

@[simp] theorem openFrame_sync (b : Block) : (openFrame b).sync = true := rfl
@[simp] theorem openFrame_idx (b : Block) : (openFrame b).idx = 0 := rfl
@[simp] theorem openFrame_acc (b : Block) : (openFrame b).acc = 0#24 := rfl
@[simp] theorem openFrame_tRise (b : Block) : (openFrame b).tRise = b.tRise := rfl
@[simp] theorem openFrame_tFall (b : Block) : (openFrame b).tFall = b.tFall := rfl
@[simp] theorem openFrame_dHigh (b : Block) : (openFrame b).dHigh = b.dHigh := rfl
@[simp] theorem openFrame_dLow (b : Block) : (openFrame b).dLow = b.dLow := rfl
@[simp] theorem openFrame_code (b : Block) : (openFrame b).code = b.code := rfl
@[simp] theorem openFrame_ready (b : Block) : (openFrame b).ready = b.ready := rfl

/-! ### `closeFrame` -/

@[simp] theorem closeFrame_sync (b : Block) : (closeFrame b).sync = false := rfl
@[simp] theorem closeFrame_idx (b : Block) : (closeFrame b).idx = 0 := rfl
@[simp] theorem closeFrame_acc (b : Block) : (closeFrame b).acc = 0#24 := rfl
@[simp] theorem closeFrame_tRise (b : Block) : (closeFrame b).tRise = b.tRise := rfl
@[simp] theorem closeFrame_tFall (b : Block) : (closeFrame b).tFall = b.tFall := rfl
@[simp] theorem closeFrame_dHigh (b : Block) : (closeFrame b).dHigh = b.dHigh := rfl
@[simp] theorem closeFrame_dLow (b : Block) : (closeFrame b).dLow = b.dLow := rfl
@[simp] theorem closeFrame_code (b : Block) : (closeFrame b).code = b.code := rfl
@[simp] theorem closeFrame_ready (b : Block) : (closeFrame b).ready = b.ready := rfl

/-! ### `latchFrame` -/

@[simp] theorem latchFrame_sync (a : Frame) (b : Block) : (latchFrame a b).sync = false := rfl
@[simp] theorem latchFrame_idx (a : Frame) (b : Block) : (latchFrame a b).idx = 0 := rfl
@[simp] theorem latchFrame_acc (a : Frame) (b : Block) : (latchFrame a b).acc = 0#24 := rfl
@[simp] theorem latchFrame_tRise (a : Frame) (b : Block) : (latchFrame a b).tRise = b.tRise := rfl
@[simp] theorem latchFrame_tFall (a : Frame) (b : Block) : (latchFrame a b).tFall = b.tFall := rfl
@[simp] theorem latchFrame_dHigh (a : Frame) (b : Block) : (latchFrame a b).dHigh = b.dHigh := rfl
@[simp] theorem latchFrame_dLow (a : Frame) (b : Block) : (latchFrame a b).dLow = b.dLow := rfl
@[simp] theorem latchFrame_code (a : Frame) (b : Block) : (latchFrame a b).code = a := rfl
@[simp] theorem latchFrame_ready (a : Frame) (b : Block) : (latchFrame a b).ready = true := rfl

/-! ### `clearReady` -/

@[simp] theorem clearReady_sync (b : Block) : (clearReady b).sync = b.sync := rfl
@[simp] theorem clearReady_idx (b : Block) : (clearReady b).idx = b.idx := rfl
@[simp] theorem clearReady_acc (b : Block) : (clearReady b).acc = b.acc := rfl
@[simp] theorem clearReady_tRise (b : Block) : (clearReady b).tRise = b.tRise := rfl
@[simp] theorem clearReady_tFall (b : Block) : (clearReady b).tFall = b.tFall := rfl
@[simp] theorem clearReady_dHigh (b : Block) : (clearReady b).dHigh = b.dHigh := rfl
@[simp] theorem clearReady_dLow (b : Block) : (clearReady b).dLow = b.dLow := rfl
@[simp] theorem clearReady_code (b : Block) : (clearReady b).code = b.code := rfl
@[simp] theorem clearReady_ready (b : Block) : (clearReady b).ready = false := rfl

/-! ### `fallBlock` -/

@[simp] theorem fallBlock_sync (p : Params) (now : Nat) (b : Block) : (fallBlock p now b).sync = b.sync := rfl
@[simp] theorem fallBlock_idx (p : Params) (now : Nat) (b : Block) : (fallBlock p now b).idx = b.idx := rfl
@[simp] theorem fallBlock_acc (p : Params) (now : Nat) (b : Block) : (fallBlock p now b).acc = b.acc := rfl
@[simp] theorem fallBlock_tRise (p : Params) (now : Nat) (b : Block) : (fallBlock p now b).tRise = b.tRise := rfl
@[simp] theorem fallBlock_tFall (p : Params) (now : Nat) (b : Block) : (fallBlock p now b).tFall = now := rfl
@[simp] theorem fallBlock_dHigh (p : Params) (now : Nat) (b : Block) : (fallBlock p now b).dHigh = highDuration p now b := rfl
@[simp] theorem fallBlock_dLow (p : Params) (now : Nat) (b : Block) : (fallBlock p now b).dLow = b.dLow := rfl
@[simp] theorem fallBlock_code (p : Params) (now : Nat) (b : Block) : (fallBlock p now b).code = b.code := rfl
@[simp] theorem fallBlock_ready (p : Params) (now : Nat) (b : Block) : (fallBlock p now b).ready = b.ready := rfl

end Sys2Proof.Machine
end

