-- ==== Sys2Proof/Laws/Ops.lean ====
section
/-! SUPPORT. For each shared operation, what it can do, said once. -/

namespace Sys2Proof.Machine

/-! ### Outcomes -/

@[simp] theorem andThen_next (s : State) (k : State → Host.Outcome State Fault Refusal) :
    andThen (.next s) k = k s := rfl

/-- A sequence answers a next state exactly if both parts do. -/
theorem andThen_eq_next {o : Host.Outcome State Fault Refusal} {k : State → Host.Outcome State Fault Refusal}
    {t : State} : andThen o k = .next t ↔ ∃ s, o = .next s ∧ k s = .next t := by
  cases o <;> simp [andThen]

/-! ### The meanings, as the next states they answer -/

@[simp] theorem exec_edgeIdle (time : Nat) (s : State) : exec (.edgeIdle time) s = .next s := rfl

@[simp] theorem exec_fall (now : Nat) (s : State) : exec (.fall now) s =
    .next (if inRange s.params now then setBlock (fallBlock s.params now s.block) s
      else raiseFault .timestampRange (edgeWord s.params.tickW 1 now) s) := rfl

@[simp] theorem exec_rise (now : Nat) (s : State) : exec (.rise now) s =
    .next (if inRange s.params now then setBlock (riseBlock s.params now s.block) s
      else raiseFault .timestampRange (edgeWord s.params.tickW 2 now) s) := rfl

@[simp] theorem exec_edgeReserved (time : Nat) (s : State) : exec (.edgeReserved time) s =
    .next (raiseFault .edgeOpReserved (edgeWord s.params.tickW 3 time) s) := rfl

@[simp] theorem exec_readIdle (s : State) : exec .readIdle s = .next s := rfl

@[simp] theorem exec_isValid (s : State) : exec .isValid s = .next (deliver (.valid s.block.ready) s) := rfl

@[simp] theorem exec_takeCode (s : State) : exec .takeCode s =
    .next (setBlock (clearReady s.block) (deliver (.code s.block.code s.block.ready) s)) := rfl

@[simp] theorem exec_getInfo (s : State) : exec .getInfo s =
    .next (setBlock (clearReady s.block)
      (deliver (.info (remoteIdOf s.block.code) (keyOf s.block.code) s.block.ready) s)) := rfl

@[simp] theorem exec_reset (s : State) : exec .reset s = .next (setBlock resetBlock s) := rfl

/-! ### The words of the ports -/

theorem two_pow_add_two (n : Nat) : 2 ^ (n + 2) = 4 * 2 ^ n := by
  rw [Nat.pow_add]; omega

theorem edgeWord_lt {tickW op time : Nat} (hop : op < 4) (ht : time < 2 ^ tickW) :
    edgeWord tickW op time < 2 ^ (tickW + 2) := by
  rw [two_pow_add_two]
  have : op * 2 ^ tickW ≤ 3 * 2 ^ tickW := Nat.mul_le_mul_right _ (by omega)
  simp only [edgeWord]; omega

theorem edgeTimeField_edgeWord {tickW op time : Nat} (ht : time < 2 ^ tickW) :
    edgeTimeField tickW (edgeWord tickW op time) = time := by
  simp [edgeTimeField, edgeWord, Nat.mul_add_mod_self_right, Nat.mod_eq_of_lt ht]

theorem edgeOpField_edgeWord {tickW op time : Nat} (ht : time < 2 ^ tickW) :
    edgeOpField tickW (edgeWord tickW op time) = BitVec.ofNat 2 op := by
  have h : (op * 2 ^ tickW + time) / 2 ^ tickW = op := by
    rw [Nat.mul_comm, Nat.mul_add_div (Nat.two_pow_pos _), Nat.div_eq_of_lt ht, Nat.add_zero]
  simp [edgeOpField, edgeWord, h]

/-- An EDGE word that fits its port is its two fields. -/
theorem edgeWord_of_fields {tickW w : Nat} (h : w < 2 ^ (tickW + 2)) :
    edgeWord tickW (edgeOpField tickW w).toNat (edgeTimeField tickW w) = w := by
  have hq : w / 2 ^ tickW < 4 := by
    rw [two_pow_add_two] at h
    exact Nat.div_lt_of_lt_mul (by rwa [Nat.mul_comm] at h)
  have hm : (edgeOpField tickW w).toNat = w / 2 ^ tickW := by
    simp [edgeOpField, Nat.mod_eq_of_lt hq]
  rw [edgeWord, hm, edgeTimeField, Nat.mul_comm]
  exact Nat.div_add_mod w (2 ^ tickW)

theorem edgeTimeField_lt (tickW w : Nat) : edgeTimeField tickW w < 2 ^ tickW :=
  Nat.mod_lt _ (Nat.two_pow_pos _)

theorem portEdge_lt (s : State) : portEdge s < 2 ^ (s.params.tickW + 2) :=
  Nat.mod_lt _ (Nat.two_pow_pos _)

/-- The edge operation of a word, by its `op` field: one of the four EDGE forms, with the word's time. -/
theorem edgeInstr_cases (tickW w : Nat) :
    (edgeOpField tickW w = 0#2 ∧ edgeInstr tickW w = .edgeIdle (edgeTimeField tickW w)) ∨
    (edgeOpField tickW w = 1#2 ∧ edgeInstr tickW w = .fall (edgeTimeField tickW w)) ∨
    (edgeOpField tickW w = 2#2 ∧ edgeInstr tickW w = .rise (edgeTimeField tickW w)) ∨
    (edgeOpField tickW w = 3#2 ∧ edgeInstr tickW w = .edgeReserved (edgeTimeField tickW w)) := by
  have all : ∀ op : BitVec 2, op = 0#2 ∨ op = 1#2 ∨ op = 2#2 ∨ op = 3#2 := by decide
  rcases all (edgeOpField tickW w) with h | h | h | h <;> simp [edgeInstr, h]

/-- The reader operation of a word, by its value. -/
theorem readInstr_cases (w : ReadWord) :
    (w = 0#2 ∧ readInstr w = .readIdle) ∨ (w = 1#2 ∧ readInstr w = .isValid) ∨
    (w = 2#2 ∧ readInstr w = .takeCode) ∨ (w = 3#2 ∧ readInstr w = .getInfo) := by
  revert w; decide

/-! ### The comparator and the classifier -/

theorem dur_of_lt {m a b : Nat} (h : a < b) : dur m a b = b - a := by
  simp [dur, Nat.not_le.mpr h]

theorem dur_of_le {m a b : Nat} (h : b ≤ a) : dur m a b = (m - a) + b := by simp [dur, h]

theorem dur_le {m a b : Nat} (ha : a ≤ m) (hb : b ≤ m) : dur m a b ≤ m := by
  unfold dur; split <;> omega

theorem inRange_iff {p : Params} {now : Nat} : inRange p now = true ↔ now ≤ p.maxTick := by simp [inRange]

theorem ratioIn_iff {a b x y : Nat} : ratioIn a b x y = true ↔ a * y ≤ x ∧ x ≤ b * y := by simp [ratioIn]

/-! ### The frame machine -/

/-- What an accepted symbol can do: take the next position, or, at position 23, latch the frame. -/
theorem acceptSymbol_cases (bit : Bool) (b : Block) :
    (∃ h : b.idx.val + 1 < 24,
      acceptSymbol bit b = { b with acc := accumulate bit b, idx := ⟨b.idx.val + 1, h⟩ }) ∨
    (b.idx.val = 23 ∧ acceptSymbol bit b = latchFrame (accumulate bit b) b) := by
  unfold acceptSymbol
  split
  · exact .inl ⟨‹_›, rfl⟩
  · exact .inr ⟨by omega, rfl⟩

/-- What the frame machine can do on a class: open a frame, stay, close the frame, or accept a symbol. -/
theorem frameStep_cases (c : PulseClass) (b : Block) :
    (c = .sync ∧ frameStep c b = openFrame b) ∨
    (c ≠ .sync ∧ b.sync = false ∧ frameStep c b = b) ∨
    (c = .invalid ∧ b.sync = true ∧ frameStep c b = closeFrame b) ∨
    (isSymbol c = true ∧ b.sync = true ∧ frameStep c b = acceptSymbol (symbolBit c) b) := by
  cases c <;> cases h : b.sync <;> simp [frameStep, h, isSymbol]

/-- No class changes the timestamps and durations. -/
theorem frameStep_ticks (c : PulseClass) (b : Block) :
    (frameStep c b).tRise = b.tRise ∧ (frameStep c b).tFall = b.tFall ∧
    (frameStep c b).dHigh = b.dHigh ∧ (frameStep c b).dLow = b.dLow := by
  rcases frameStep_cases c b with ⟨_, h⟩ | ⟨_, _, h⟩ | ⟨_, _, h⟩ | ⟨_, _, h⟩
  · simp [h]
  · simp [h]
  · simp [h]
  · rcases acceptSymbol_cases (symbolBit c) b with ⟨_, h'⟩ | ⟨_, h'⟩ <;> simp [h, h']

@[simp] theorem riseBlock_tRise (p : Params) (now : Nat) (b : Block) : (riseBlock p now b).tRise = now :=
  (frameStep_ticks _ _).1

@[simp] theorem riseBlock_tFall (p : Params) (now : Nat) (b : Block) : (riseBlock p now b).tFall = b.tFall :=
  (frameStep_ticks _ _).2.1

@[simp] theorem riseBlock_dHigh (p : Params) (now : Nat) (b : Block) : (riseBlock p now b).dHigh = b.dHigh :=
  (frameStep_ticks _ _).2.2.1

@[simp] theorem riseBlock_dLow (p : Params) (now : Nat) (b : Block) :
    (riseBlock p now b).dLow = lowDuration p now b :=
  (frameStep_ticks _ _).2.2.2

/-- Setting the bit of a symbol sets that bit and keeps the others. -/
theorem getLsbD_setSymbolBit (acc : Frame) (idx : Fin 24) (j : Nat) :
    (setSymbolBit acc idx).getLsbD j = (acc.getLsbD j || decide (j = 23 - idx.val)) := by
  have hi := idx.isLt
  simp only [setSymbolBit, BitVec.getLsbD_or, BitVec.getLsbD_shiftLeft, BitVec.getLsbD_one]
  by_cases h : j = 23 - idx.val
  · subst h; simp; omega
  · simp only [h, decide_false, Bool.or_false]
    by_cases h' : j < 23 - idx.val
    · simp [h']
    · have : ¬ (j - (23 - idx.val) = 0) := by omega
      simp [this]

/-! ### Runs -/

/-- A run of `n + 1` steps is one step and a run of `n`. -/
theorem run_succ {s t : State} (n : Nat) (h : step s = .next t) :
    Host.Core.run Sys2Proof.core (n + 1) s = Host.Core.run Sys2Proof.core n t := by
  have h' : Sys2Proof.core.step s = .next t := h
  simp only [Host.Core.run, h']

end Sys2Proof.Machine
end

