-- ==== Sys2Proof/Laws/PerInstr.lean ====
section
/-! SUPPORT. Statements about every operation as syntax, one lemma per constructor. -/

namespace Sys2Proof.Laws.EncodeFits

open Sys2Proof.Machine

/-- The word of a well-formed operation fits the wires of its port (R62). -/
def Statement (i : Instr) : Prop :=
  ∀ tickW, i.wellFormed tickW = true → encodeWord tickW i < 2 ^ portWidth tickW (portOf i)

theorem edgeIdle (time : Nat) : Statement (.edgeIdle time) := fun _ h =>
  edgeWord_lt (by decide) (by simpa [Instr.wellFormed] using h)

theorem fall (now : Nat) : Statement (.fall now) := fun _ h =>
  edgeWord_lt (by decide) (by simpa [Instr.wellFormed] using h)

theorem rise (now : Nat) : Statement (.rise now) := fun _ h =>
  edgeWord_lt (by decide) (by simpa [Instr.wellFormed] using h)

theorem edgeReserved (time : Nat) : Statement (.edgeReserved time) := fun _ h =>
  edgeWord_lt (by decide) (by simpa [Instr.wellFormed] using h)

theorem readIdle : Statement .readIdle := fun _ _ => by simp [encodeWord, portWidth, portOf]

theorem isValid : Statement .isValid := fun _ _ => by simp [encodeWord, portWidth, portOf]

theorem takeCode : Statement .takeCode := fun _ _ => by simp [encodeWord, portWidth, portOf]

theorem getInfo : Statement .getInfo := fun _ _ => by simp [encodeWord, portWidth, portOf]

theorem reset : Statement .reset := fun _ _ => by simp [encodeWord, portWidth, portOf]

end Sys2Proof.Laws.EncodeFits
end

