-- ==== Sys2Proof/Laws/Step.lean ====
section
/-! SUPPORT. What the operations of a port can do, and what a step can do, said once; the lemmas that the statements
about cycles and sequences cite. -/

namespace Sys2Proof.Machine

/-! ### The reader's operation of a cycle -/

/-- The block after the reader's operation of a cycle. -/
def afterRead (s : State) : Block :=
  if fetchRead s = .takeCode ∨ fetchRead s = .getInfo then clearReady s.block else s.block

/-- `afterRead`, as an update of `ready` alone. -/
theorem afterRead_eq (s : State) : afterRead s = { s.block with
    ready := if fetchRead s = .takeCode ∨ fetchRead s = .getInfo then false else s.block.ready } := by
  unfold afterRead; split <;> rfl

/-- What a reader operation can do in its cycle: deliver its value and clear `ready`, or leave the block. -/
theorem exec_fetchRead (s : State) : exec (fetchRead s) (beginCycle s) =
    .next (deliver (readReturn (fetchRead s) s.block) (setBlock (afterRead s) (beginCycle s))) := by
  unfold afterRead fetchRead
  rcases readInstr_cases (portRead s) with ⟨_, h⟩ | ⟨_, h⟩ | ⟨_, h⟩ | ⟨_, h⟩ <;> rw [h] <;> rfl

/-! ### The edge operation of a cycle -/

/-- The block after an edge operation; the other operations leave it. -/
def afterEdge (i : Instr) (p : Params) (b : Block) : Block :=
  match i with
  | .edgeIdle _ => b
  | .fall now => if inRange p now then fallBlock p now b else b
  | .rise now => if inRange p now then riseBlock p now b else b
  | .edgeReserved _ => b
  | .readIdle => b
  | .isValid => b
  | .takeCode => b
  | .getInfo => b
  | .reset => b

/-- The faults an edge operation records in cycle `k`: none or one. -/
def edgeFaults (i : Instr) (p : Params) (k : Nat) : List FaultRecord :=
  match i with
  | .edgeIdle _ => []
  | .fall now => if inRange p now then [] else [⟨k, .timestampRange, edgeWord p.tickW 1 now⟩]
  | .rise now => if inRange p now then [] else [⟨k, .timestampRange, edgeWord p.tickW 2 now⟩]
  | .edgeReserved time => [⟨k, .edgeOpReserved, edgeWord p.tickW 3 time⟩]
  | .readIdle => []
  | .isValid => []
  | .takeCode => []
  | .getInfo => []
  | .reset => []

/-- What an edge operation can do: write the block, and record a fault. -/
theorem exec_edge {i : Instr} (h : portOf i = .edge) (s : State) :
    exec i s = .next { s with
      block := afterEdge i s.params s.block, faults := s.faults ++ edgeFaults i s.params s.cycle } := by
  cases i <;> simp [portOf] at h
  · simp [afterEdge, edgeFaults]
  · simp only [exec_fall, afterEdge, edgeFaults]; split <;> simp [setBlock, raiseFault]
  · simp only [exec_rise, afterEdge, edgeFaults]; split <;> simp [setBlock, raiseFault]
  · simp [afterEdge, edgeFaults, raiseFault]

theorem portOf_fetchEdge (s : State) : portOf (fetchEdge s) = .edge := by
  unfold fetchEdge
  rcases edgeInstr_cases s.params.tickW (portEdge s) with ⟨_, h⟩ | ⟨_, h⟩ | ⟨_, h⟩ | ⟨_, h⟩ <;> rw [h] <;> rfl

/-- The operation read from an EDGE word encodes back to that word. -/
theorem encodeWord_fetchEdge (s : State) : encodeWord s.params.tickW (fetchEdge s) = portEdge s := by
  have hw := edgeWord_of_fields (portEdge_lt s)
  unfold fetchEdge
  rcases edgeInstr_cases s.params.tickW (portEdge s) with ⟨ho, h⟩ | ⟨ho, h⟩ | ⟨ho, h⟩ | ⟨ho, h⟩ <;>
    rw [h] <;> rw [ho] at hw <;> exact hw

/-! ### The step -/

/-- What a step without RESET can do. -/
theorem step_run {s : State} (h : portRst s = false) : step s = .next (endCycle { s with
    outputs := outputsOf s.block
    returned := readReturn (fetchRead s) s.block
    block := afterEdge (fetchEdge s) s.params (afterRead s)
    faults := s.faults ++ edgeFaults (fetchEdge s) s.params s.cycle }) := by
  simp only [step, cycle, h, cycleRun, exec_fetchRead, andThen_next, exec_edge (portOf_fetchEdge s)]
  rfl

/-- What a step with RESET can do. -/
theorem step_rst {s : State} (h : portRst s = true) : step s = .next (endCycle { s with
    outputs := outputsOf s.block
    returned := readReturn (fetchRead s) s.block
    block := resetBlock }) := by
  simp only [step, cycle, h, cycleReset, exec_reset, andThen_next, if_true]
  rfl

/-! ### The frame machine and the fields it does not read -/

/-- The class completes a frame in a block: a symbol in Receiving(23). -/
def classCompletes (c : PulseClass) (b : Block) : Bool := b.sync && decide (b.idx.val = 23) && isSymbol c

/-- The frame machine does not read `ready`, and writes it only where the class completes a frame. -/
theorem frameStep_ready (c : PulseClass) (b : Block) (r : Bool) :
    frameStep c { b with ready := r } = { frameStep c b with ready := if classCompletes c b then true else r } := by
  rcases b with ⟨sy, ix, ac, t1, t2, d1, d2, co, re⟩
  by_cases h : ix.val + 1 < 24
  · have h' : ¬ ix.val = 23 := by omega
    cases c <;> cases sy <;>
      simp [frameStep, classCompletes, acceptSymbol, h, h', openFrame, closeFrame, accumulate, isSymbol]
  · have h' : ix.val = 23 := by omega
    cases c <;> cases sy <;>
      simp [frameStep, classCompletes, acceptSymbol, h', openFrame, closeFrame, latchFrame, accumulate, isSymbol]

/-- The frame machine leaves `code` alone where the class completes no frame. -/
theorem frameStep_code {c : PulseClass} {b : Block} (h : classCompletes c b = false) :
    (frameStep c b).code = b.code := by
  unfold classCompletes at h
  rcases frameStep_cases c b with ⟨_, e⟩ | ⟨_, _, e⟩ | ⟨_, _, e⟩ | ⟨hc, hs, e⟩
  · simp [e]
  · rw [e]
  · simp [e]
  · rcases acceptSymbol_cases (symbolBit c) b with ⟨_, e'⟩ | ⟨hi, _⟩
    · rw [e, e']
    · simp [hs, hi, hc] at h

/-- The frame machine does not read `d_low`. -/
theorem frameStep_dLow (c : PulseClass) (b : Block) (x : Nat) :
    frameStep c { b with dLow := x } = { frameStep c b with dLow := x } := by
  rcases b with ⟨sy, ix, ac, t1, t2, d1, d2, co, re⟩
  by_cases h : ix.val + 1 < 24 <;> cases c <;> cases sy <;>
    simp [frameStep, acceptSymbol, h, openFrame, closeFrame, latchFrame, accumulate]

/-! ### Sequences of operations -/

/-- The classes of a sequence are those of its first operation and then those of the rest. -/
theorem classesOf_cons {i : Instr} {is : List Instr} {s t : State} (h : exec i s = .next t) :
    classesOf (i :: is) s = classOf i s ++ classesOf is t := by
  simp only [classesOf, h]

/-- A sequence is its first operation and then the rest. -/
theorem execAll_cons {i : Instr} {is : List Instr} {s t : State} (h : exec i s = .next t) :
    execAll (i :: is) s = execAll is t := by
  simp only [execAll, h, andThen_next]

end Sys2Proof.Machine
end

