-- ==== Sys2Proof/Tests/Slice0.lean ====
section
/-! SUPPORT. Tests whose expected results come from spec/95_test_vectors.md (named by their ids there) or are written out
bit by bit from spec/30_encoding.md, and a witness for each statement that has hypotheses. -/

namespace Sys2Proof.Tests

open Sys2Proof Sys2Proof.Machine

/-! ### Small states -/

/-- The default instance of spec/95_test_vectors.md under a profile. -/
def params (p : Profile) : Params := { tickW := 16, maxTick := 65535, profile := p }

/-- The reset block, after a change. -/
def blk (f : Block → Block) : Block := f Block.reset

/-- A state at reset but for the block, under LOW. -/
def stateOf (b : Block) : State := { State.resetOf (params .low) with block := b }

/-- A state at reset but for the block, at `MAX_TICK = 60000`, under LOW. -/
def shortState (b : Block) : State :=
  { State.resetOf { tickW := 16, maxTick := 60000, profile := .low } with block := b }

/-- The next state's block, where there is one. -/
def blockAfter (o : Host.Outcome State Fault Refusal) : Option Block :=
  match o with
  | .next s => some s.block
  | .fault _ => none
  | .refused _ => none

/-- The faults recorded in the next state, where there is one. -/
def faultsAfter (o : Host.Outcome State Fault Refusal) : Option (List FaultRecord) :=
  match o with
  | .next s => some s.faults
  | .fault _ => none
  | .refused _ => none

/-- What the reader operation delivered, where there is a next state. -/
def returnedAfter (o : Host.Outcome State Fault Refusal) : Option Returned :=
  match o with
  | .next s => some s.returned
  | .fault _ => none
  | .refused _ => none

/-- State X of section 2.6: Receiving(23) with the last symbol to come. -/
def blockX (ready : Bool) : Block :=
  blk (fun b => { b with
    sync := true, idx := 23, acc := 0xABCDE0#24, dHigh := 300, tFall := 13700, code := 0x111111#24, ready := ready })

/-- State X with one cycle's input presented. -/
def cycleX (ready : Bool) (c : CycleInput) : State := withInputs [c] (stateOf (blockX ready))

/-! ### Well-formedness: each check refuses an ill-formed term -/

theorem test_wellFormed_refuses_wide_edgeIdle : (Instr.edgeIdle 0x10000).wellFormed 16 = false := by decide
theorem test_wellFormed_refuses_wide_fall : (Instr.fall 0x10000).wellFormed 16 = false := by decide
theorem test_wellFormed_refuses_wide_rise : (Instr.rise 0x10000).wellFormed 16 = false := by decide
theorem test_wellFormed_refuses_wide_edgeReserved : (Instr.edgeReserved 0x10000).wellFormed 16 = false := by decide
theorem test_wellFormed_accepts_top_time : (Instr.rise 0xFFFF).wellFormed 16 = true := by decide

/-! ### Decoding: words written out from the formats of R62 to R65 -/

theorem test_decode_edgeIdle : decode 16 .edge 0b00_0000000000000101 = .ok (.edgeIdle 5) := by decide
theorem test_decode_fall : decode 16 .edge 0b01_0000010001001100 = .ok (.fall 1100) := by decide
theorem test_decode_rise : decode 16 .edge 0b10_0001000001101000 = .ok (.rise 4200) := by decide
theorem test_decode_edgeReserved : decode 16 .edge 0b11_0000110110101100 = .ok (.edgeReserved 3500) := by decide
theorem test_decode_readIdle : decode 16 .read 0b00 = .ok .readIdle := by decide
theorem test_decode_isValid : decode 16 .read 0b01 = .ok .isValid := by decide
theorem test_decode_takeCode : decode 16 .read 0b10 = .ok .takeCode := by decide
theorem test_decode_getInfo : decode 16 .read 0b11 = .ok .getInfo := by decide
theorem test_decode_reset : decode 16 .ctrl 0b1 = .ok .reset := by decide

theorem test_decode_rejects_by_name :
    decode 16 .edge 0x40000 = .error .edgeWordTooWide ∧ decode 16 .read 4 = .error .readWordTooWide ∧
    decode 16 .ctrl 2 = .error .ctrlWordTooWide ∧ decode 16 .ctrl 0 = .error .noReset := by decide

/-- A narrower instance: at `TICK_W = 8` the `op` field is bits 9:8 (R62). -/
theorem test_decode_other_width : decode 8 .edge 0b10_11001000 = .ok (.rise 200) := by decide

theorem test_decodeTableWord_by_format :
    decodeTableWord 24 0x2FFFF = some (.rise 0xFFFF) ∧ decodeTableWord 18 0x10000 = some (.fall 0) ∧
    decodeTableWord 8 3 = some .getInfo ∧ decodeTableWord 2 1 = some .isValid ∧ decodeTableWord 1 1 = some .reset := by
  decide

theorem test_encode_words :
    encode 16 (.fall 1100) = (.edge, 0x1044C) ∧ encode 16 (.rise 4200) = (.edge, 0x21068) ∧
    encode 16 .getInfo = (.read, 3) ∧ encode 16 .reset = (.ctrl, 1) := by decide

/-- The first instruction after reset is the one placed where the step fetches, for a word of each format. -/
theorem test_placed_word_runs_first :
    blockAfter (step (State.reset.withFetchWord 24 0x1044C)) =
      some (blk (fun b => { b with dHigh := 1100, tFall := 1100 })) ∧
    returnedAfter (step (State.reset.withFetchWord 2 2)) = some (.code 0#24 false) ∧
    faultsAfter (step (State.reset.withFetchWord 18 0x30DAC)) = some [⟨0, .edgeOpReserved, 0x30DAC⟩] := by
  refine ⟨rfl, rfl, rfl⟩

/-! ### The comparator (section 2.1) and the classifier (section 2.2) -/

/-- V-D1 to V-D16. -/
theorem test_dur_vectors :
    dur 65535 65530 5 = 10 ∧ dur 65535 0 10 = 10 ∧ dur 65535 1100 4200 = 3100 ∧ dur 65535 5 5 = 65535 ∧
    dur 65535 65535 0 = 0 ∧ dur 65535 0 65535 = 65535 ∧ dur 65535 100 99 = 65534 ∧ dur 65535 65000 500 = 1035 ∧
    dur 65535 65534 65535 = 1 ∧ dur 100 95 5 = 10 ∧ dur 100 100 0 = 0 ∧ dur 100 50 50 = 100 ∧ dur 100 0 100 = 100 := by
  decide

/-- The LOW column of section 2.2: V-C1, V-C2, V-C3, V-C8, V-C10, V-C14, V-C15, V-C19, V-C20, V-C21, V-C23, V-C24. -/
theorem test_classify_low :
    classify .low 100 3100 = .sync ∧ classify .low 100 2700 = .invalid ∧ classify .low 100 2800 = .sync ∧
    classify .low 100 3500 = .invalid ∧ classify .low 100 100 = .zero ∧ classify .low 100 500 = .zero ∧
    classify .low 100 600 = .invalid ∧ classify .low 500 100 = .one ∧ classify .low 600 100 = .invalid ∧
    classify .low 0 0 = .sync ∧ classify .low 5 0 = .invalid ∧ classify .low 3 100 = .sync := by decide

/-- The HIGH column of section 2.2: V-C3, V-C4, V-C5, V-C6, V-C10, V-C13, V-C14, V-C18, V-C19, V-C22, V-C30. -/
theorem test_classify_high :
    classify .high 100 2800 = .invalid ∧ classify .high 100 2900 = .sync ∧ classify .high 100 3200 = .sync ∧
    classify .high 100 3300 = .invalid ∧ classify .high 100 100 = .invalid ∧ classify .high 100 400 = .zero ∧
    classify .high 100 500 = .invalid ∧ classify .high 400 100 = .one ∧ classify .high 500 100 = .invalid ∧
    classify .high 0 5 = .invalid ∧ classify .high 2000 65535 = .invalid := by decide

/-! ### The edge operations (sections 2.3 and 2.4) -/

/-- V-F2: across the wrap. -/
theorem test_fall_wraps :
    blockAfter (exec (.fall 40) (stateOf (blk (fun b => { b with tRise := 65500 })))) =
      some (blk (fun b => { b with tRise := 65500, dHigh := 75, tFall := 40 })) := by decide

/-- V-F6: out of range, the state is unchanged and the fault is recorded. -/
theorem test_fall_out_of_range :
    blockAfter (exec (.fall 60001) (shortState Block.reset)) = some Block.reset ∧
    faultsAfter (exec (.fall 60001) (shortState Block.reset)) = some [⟨0, .timestampRange, 0x1EA61⟩] := by decide

/-- V-R4: the 24th symbol is ONE, and an unconsumed code is overwritten. -/
theorem test_rise_latches_over_unconsumed :
    blockAfter (exec (.rise 13800) (stateOf (blockX true))) =
      some (blk (fun b => { b with
        tRise := 13800, tFall := 13700, dHigh := 300, dLow := 100, code := 0xABCDE1#24, ready := true })) := by decide

/-- V-R2, V-R5 and V-R12: a ONE in Receiving(5); an abort at ratio 10; `th = tl` under HIGH. -/
theorem test_rise_symbol_and_aborts :
    blockAfter (exec (.rise 6200) (stateOf (blk (fun b => { b with
      sync := true, idx := 5, acc := 0xA80000#24, tFall := 6100, dHigh := 300 })))) =
      some (blk (fun b => { b with
        sync := true, idx := 6, acc := 0xAC0000#24, tRise := 6200, tFall := 6100, dHigh := 300, dLow := 100 })) ∧
    blockAfter (exec (.rise 10000) (stateOf (blk (fun b => { b with
      sync := true, idx := 10, acc := 0xABC000#24, tFall := 9000, dHigh := 100 })))) =
      some (blk (fun b => { b with tRise := 10000, tFall := 9000, dHigh := 100, dLow := 1000 })) ∧
    blockAfter (exec (.rise 1100) { State.resetOf (params .high) with
      block := blk (fun b => { b with sync := true, idx := 2, acc := 0x400000#24, tFall := 1000, dHigh := 100 }) }) =
      some (blk (fun b => { b with tRise := 1100, tFall := 1000, dHigh := 100, dLow := 100 })) := by decide

theorem test_edgeIdle_changes_nothing :
    blockAfter (exec (.edgeIdle 7) (stateOf (blockX true))) = some (blockX true) := by decide

/-- V-K7, the edge operation alone. -/
theorem test_edgeReserved_records :
    blockAfter (exec (.edgeReserved 0x35E8) (stateOf (blockX true))) = some (blockX true) ∧
    faultsAfter (exec (.edgeReserved 0x35E8) (stateOf (blockX true))) = some [⟨0, .edgeOpReserved, 0x335E8⟩] := by
  decide

/-! ### The reader operations (section 2.5) -/

/-- V-Q9. -/
theorem test_readIdle_changes_nothing :
    blockAfter (exec .readIdle (stateOf (blk (fun b => { b with code := 0x5A5A5A#24, ready := true })))) =
      some (blk (fun b => { b with code := 0x5A5A5A#24, ready := true })) := by decide

/-- V-Q1 and V-Q2. -/
theorem test_isValid :
    returnedAfter (exec .isValid (stateOf (blockX true))) = some (.valid true) ∧
    returnedAfter (exec .isValid (stateOf (blockX false))) = some (.valid false) := by decide

/-- V-Q3 and V-Q4: fresh and stale. -/
theorem test_takeCode :
    returnedAfter (exec .takeCode (stateOf (blockX true))) = some (.code 0x111111#24 true) ∧
    blockAfter (exec .takeCode (stateOf (blockX true))) = some (blockX false) ∧
    returnedAfter (exec .takeCode (stateOf (blockX false))) = some (.code 0x111111#24 false) := by decide

/-- V-Q6 and V-Q8: the fields of the code, fresh and stale. -/
theorem test_getInfo :
    returnedAfter (exec .getInfo (stateOf (blk (fun b => { b with code := 0xABCDE1#24, ready := true })))) =
      some (.info 0xABCDE#20 0x1#4 true) ∧
    returnedAfter (exec .getInfo (stateOf (blk (fun b => { b with code := 0x00000F#24 })))) =
      some (.info 0x00000#20 0xF#4 false) := by decide

/-! ### RESET and the cycle (section 2.6) -/

/-- The example of R150. -/
theorem test_reset_zeroes :
    blockAfter (exec .reset (stateOf (blockX true))) = some Block.reset := by decide

/-- V-K2: the reader takes the old frame, and the new one is latched. -/
theorem test_cycle_set_wins :
    blockAfter (step (cycleX true ⟨0#1, 0x235E8, 0b10#2⟩)) =
      some (blk (fun b => { b with
        tRise := 13800, tFall := 13700, dHigh := 300, dLow := 100, code := 0xABCDE1#24, ready := true })) ∧
    returnedAfter (step (cycleX true ⟨0#1, 0x235E8, 0b10#2⟩)) = some (.code 0x111111#24 true) := by decide

/-- V-K5: RESET overrides both words, and the reader still sees the old code. -/
theorem test_cycle_reset_overrides :
    blockAfter (step (cycleX true ⟨1#1, 0x235E8, 0b10#2⟩)) = some Block.reset ∧
    returnedAfter (step (cycleX true ⟨1#1, 0x235E8, 0b10#2⟩)) = some (.code 0x111111#24 true) := by decide

/-- V-K7: the reserved word performs nothing, TAKE_CODE still acts, and the fault is recorded. -/
theorem test_cycle_reserved_word :
    blockAfter (step (cycleX true ⟨0#1, 0x335E8, 0b10#2⟩)) = some (blockX false) ∧
    faultsAfter (step (cycleX true ⟨0#1, 0x335E8, 0b10#2⟩)) = some [⟨0, .edgeOpReserved, 0x335E8⟩] := by decide

/-! ### The assembler (R72, R73): lines of programs P1, P3 and P4 -/

/-- `RISE 7265 + TAKE`, cycle 51 of P3. -/
theorem test_assemble_two_items :
    assembleLine 16 ['R', 'I', 'S', 'E', ' ', '7', '2', '6', '5', ' ', '+', ' ', 'T', 'A', 'K', 'E'] =
      some [⟨0#1, 0x21C61, 0b10#2⟩] := by decide

/-- A label, a hexadecimal time and a comment: `a: FALL 0x44c ; b`. -/
theorem test_assemble_label_hex_comment :
    assembleLine 16 ['a', ':', ' ', 'F', 'A', 'L', 'L', ' ', '0', 'x', '4', '4', 'c', ' ', ';', ' ', 'b'] =
      some [⟨0#1, 0x1044C, 0b00#2⟩] := by decide

/-- Two read items in one cycle are no line: `TAKE + INFO`. -/
theorem test_assemble_rejects_two_read_items :
    assembleLine 16 ['T', 'A', 'K', 'E', '+', 'I', 'N', 'F', 'O'] = none := by decide

/-- `PULSE 1100, 4200`: cycles 2 and 3 of P1. -/
theorem test_assemble_pulse :
    assembleLine 16 ['P', 'U', 'L', 'S', 'E', ' ', '1', '1', '0', '0', ',', ' ', '4', '2', '0', '0'] =
      some [⟨0#1, 0x1044C, 0b00#2⟩, ⟨0#1, 0x21068, 0b00#2⟩] := by decide

/-! ### Witnesses: states and operands that meet the hypotheses of the statements -/

/-- A state with `T_high = 100` measured and the falling reference at 0, from which a RISE at 3100 is a sync pulse, at
300 a ZERO, at 50 a ONE and at 1000 invalid. -/
def pulses : State := stateOf (blk (fun b => { b with dHigh := 100 }))

/-- A state that meets the invariant, with `T_high = 100` measured from tick 0. -/
def measured : State := stateOf (blk (fun b => { b with dHigh := 100, tFall := 100 }))

theorem witness_EdgeOpFieldSelectsOperation : 0xFFFF < 2 ^ 16 ∧ 0 < 2 ^ 16 := by decide
theorem witness_DecodeOfEncodeIsIdentity : (Instr.fall 0xFFFF).wellFormed 16 = true := by decide
theorem witness_EncodeOfDecodeIsIdentity :
    decode 16 .edge 0x3FFFF = .ok (.edgeReserved 0xFFFF) ∧ decode 16 .read 3 = .ok .getInfo ∧
    decode 16 .ctrl 1 = .ok .reset := by decide
theorem witness_DurationFormula : (params .high).Wf ∧ 65530 ≤ (params .high).maxTick ∧ 5 ≤ (params .high).maxTick := by
  decide
theorem witness_DurationProperties :
    (1 ≤ 100) ∧ (5 < 95 ∧ 95 ≤ 100) ∧ (0 < 10 ∧ 10 ≤ 100 ∧ (95 + 10) % (100 + 1) < 95) := by decide
theorem witness_ClassifierCornerCases :
    (0 < 1) ∧ (5 * 1 < 6 ∧ 6 < 28 * 1) ∧ (5 * 1 < 27 ∧ 27 < 28 * 1) ∧ (4 * 1 < 5 ∧ 5 < 29 * 1) ∧
    (4 * 1 < 28 ∧ 28 < 29 * 1) := by decide
theorem witness_ZeroPairIsNeverClassified : measured.Inv ∧ (stateOf Block.reset).Inv ∧ 0 ≤ measured.params.maxTick := by
  decide
theorem witness_EdgeIdleHasNoEffect :
    portRst (cycleX true CycleInput.idle) = false ∧ fetchEdge (cycleX true CycleInput.idle) = .edgeIdle 0 ∧
    fetchRead (cycleX true CycleInput.idle) = .readIdle := by decide
theorem witness_FallStoresHighDuration :
    (shortState Block.reset).block.tRise ≤ (shortState Block.reset).params.maxTick ∧
    60000 ≤ (shortState Block.reset).params.maxTick ∧ (shortState Block.reset).params.maxTick < 60001 := by decide

/-- The clauses of the RISE statement, each at a state of its own: sync pulse, Idle, abort, a symbol at 22, the latch at
23, out of range. -/
theorem witness_RiseRunsFrameMachine :
    (pulses.block.tFall ≤ pulses.params.maxTick ∧ (blockX true).tFall ≤ (params .low).maxTick) ∧
    riseClass pulses.params 2800 pulses.block = .sync ∧
    (riseClass pulses.params 500 pulses.block = .zero ∧ pulses.block.sync = false) ∧
    (riseClass (params .low) 15201 (blockX true) = .invalid ∧ (blockX true).sync = true) ∧
    (riseClass (params .low) 13760 { blockX true with idx := 22 } = .one ∧
      ({ blockX true with idx := 22 } : Block).idx.val + 1 < 24) ∧
    (riseClass (params .low) 13760 (blockX true) = .one ∧ (blockX true).idx.val = 23) ∧
    (shortState Block.reset).params.maxTick < 60001 := by decide

/-- Timestamps in order, equal, backwards and at the ends of the domain. -/
theorem witness_EdgeOrderIsNotChecked :
    pulses.block.tRise ≤ pulses.params.maxTick ∧ pulses.block.tFall ≤ pulses.params.maxTick ∧
    ∀ a ∈ [0, 3100, 3300, 65535], a ≤ pulses.params.maxTick := by decide
theorem witness_PulseWidthsAreMeasuredExactly :
    (stateOf (blk (fun b => { b with tRise := 65530 }))).params.Wf ∧
    (stateOf (blk (fun b => { b with tRise := 65530 }))).block.tRise = tickAt 65535 65530 ∧
    (0 < 65534 ∧ 65534 < 65535) ∧ (0 < 1 ∧ 1 < 65535) := by decide
theorem witness_FrameLaw :
    NoReset (.rise 3100 :: List.replicate 23 (.rise 50)) ∧ 300 ≤ pulses.params.maxTick ∧
    classesOf (.rise 3100 :: List.replicate 23 (.rise 50) ++ [.rise 300]) pulses =
      .sync :: (List.replicate 23 .one ++ [.zero]) := by decide
theorem witness_AbortLaw :
    (∀ i ∈ ([.rise 3100, .rise 300, .edgeIdle 0, .rise 1000] : List Instr), portOf i = .edge) ∧
    classesOf [.rise 3100, .rise 300, .edgeIdle 0, .rise 1000] pulses = .sync :: [.zero] ++ [.invalid] := by decide
theorem witness_AbortLaw_no_symbols :
    classesOf [.rise 3100, .rise 1000] pulses = .sync :: [] ++ [.invalid] := by decide


/-- The second half of the abort law: after an abort, a new sync pulse and 24 symbols complete a frame. -/
theorem witness_AbortLaw_new_frame :
    NoReset (.rise 3100 :: List.replicate 24 (.rise 50)) ∧
    noneCompletes (.rise 3100 :: List.replicate 24 (.rise 50)) pulses = false := by decide +kernel
theorem witness_IdleWaitsForSync :
    pulses.block.Idle ∧ NoReset [.rise 300, .takeCode, .rise 1000] ∧
    PulseClass.sync ∉ classesOf [.rise 300, .takeCode, .rise 1000] pulses := by decide
theorem witness_ReadyMeansFullyValidFrame :
    pulses.block.Idle ∧ pulses.block.ready = false ∧ NoReset (.rise 3100 :: List.replicate 24 (.rise 50)) ∧
    (blockAfter (execAll (.rise 3100 :: List.replicate 24 (.rise 50)) pulses)).map (·.ready) = some true := by
  decide +kernel
theorem witness_LineIsClassifiedByTrueWidths :
    (stateOf (blk (fun b => { b with tRise := 63200 }))).params.Wf ∧
    (stateOf (blk (fun b => { b with tRise := 63200 }))).block.tRise = tickAt 65535 63200 ∧
    ShortPulses 65535 [(300, 100), (65534, 1)] := by decide

/-- A sync pulse and 24 symbols, as true widths: `(100, 3100)`, then ONEs `(300, 100)` and a last ZERO `(100, 300)`. -/
theorem witness_TransmittedFrameIsPublished :
    (stateOf (blk (fun b => { b with tRise := 63200 }))).params.Wf ∧
    (stateOf (blk (fun b => { b with tRise := 63200 }))).block.tRise = tickAt 65535 63200 ∧
    ShortPulses 65535 ((100, 3100) :: (List.replicate 23 (300, 100) ++ [(100, 300)])) ∧
    ((100, 3100) :: (List.replicate 23 (300, 100) ++ [(100, 300)])).map (fun p => classify .low p.1 p.2) =
      .sync :: (List.replicate 23 .one ++ [.zero]) := by decide
theorem witness_NoSyncBeforeFirstFall :
    pulses.params.Wf ∧ (∃ t, exec .reset pulses = .next t) ∧
    (∀ i ∈ ([.rise 1, .rise 1000] : List Instr), ∀ now, i ≠ .fall now) := by
  refine ⟨by decide, ⟨_, rfl⟩, ?_⟩
  simp
theorem witness_RepeatedTakeDeliversSameCode :
    NoReset [.fall 100, .isValid, .rise 3200] ∧
    ∃ t, exec .takeCode (stateOf (blk (fun b => { b with code := 0xFEDCBA#24, ready := true }))) = .next t ∧
      noneCompletes [.fall 100, .isValid, .rise 3200] t = true :=
  ⟨by decide, _, rfl, by decide⟩
theorem witness_ResetCycleOverridesOtherWords :
    (cycleX true ⟨1#1, 0x235E8, 0b01#2⟩).rstIn.headD 0#1 = 1#1 ∧
    fetchRead (cycleX true ⟨1#1, 0x235E8, 0b10#2⟩) = .takeCode ∧
    fetchRead (cycleX true ⟨1#1, 0x235E8, 0b11#2⟩) = .getInfo := by decide
theorem witness_StepRunsDecodedOperations :
    decode 16 .read (portRead (cycleX true ⟨0#1, 0x235E8, 0b10#2⟩)).toNat = .ok .takeCode ∧
    decode 16 .edge (portEdge (cycleX true ⟨0#1, 0x235E8, 0b10#2⟩)) = .ok (.rise 13800) ∧
    portRst (cycleX true ⟨0#1, 0x235E8, 0b10#2⟩) = false ∧
    decode 16 .ctrl ((cycleX true ⟨1#1, 0x235E8, 0b10#2⟩).rstIn.headD 0#1).toNat = .ok .reset := by decide
theorem witness_PlacedTableWordIsRun :
    State.reset.params.tickW = 16 ∧ decodeTableWord 24 0x20000 = some (.rise 0) ∧
    decodeTableWord 8 0 = some .readIdle ∧ decodeTableWord 1 1 = some .reset := by decide

/-- Hypotheses that only ask for a next state of a step, with and without RESET. -/
theorem witness_step_answers_next :
    (∃ t, step (cycleX true ⟨0#1, 0x235E8, 0b10#2⟩) = .next t) ∧ ∃ t, step (cycleX true ⟨1#1, 0, 0b00#2⟩) = .next t :=
  ⟨⟨_, rfl⟩, ⟨_, rfl⟩⟩
theorem witness_CycleIsParallelUpdate :
    portRst (cycleX true ⟨0#1, 0x235E8, 0b10#2⟩) = false ∧
    (∃ e, exec (fetchEdge (cycleX true ⟨0#1, 0x235E8, 0b10#2⟩)) (cycleX true ⟨0#1, 0x235E8, 0b10#2⟩) = .next e) ∧
    (∃ t, step (cycleX true ⟨0#1, 0x235E8, 0b10#2⟩) = .next t) ∧
    completes (fetchEdge (cycleX true ⟨0#1, 0x235E8, 0b10#2⟩)) (cycleX true ⟨0#1, 0x235E8, 0b10#2⟩) = true :=
  ⟨by decide, ⟨_, rfl⟩, ⟨_, rfl⟩, by decide⟩
theorem witness_CompletionSurvivesSameCycleRead :
    portRst (cycleX false ⟨0#1, 0x235E8, 0b11#2⟩) = false ∧
    completes (fetchEdge (cycleX false ⟨0#1, 0x235E8, 0b11#2⟩)) (cycleX false ⟨0#1, 0x235E8, 0b11#2⟩) = true ∧
    fetchRead (cycleX false ⟨0#1, 0x235E8, 0b11#2⟩) = .getInfo ∧
    fetchRead (cycleX false ⟨0#1, 0x235E8, 0b10#2⟩) = .takeCode ∧
    fetchRead (cycleX false ⟨0#1, 0x235E8, 0b01#2⟩) = .isValid := by decide
theorem witness_SoleWritersOfTheLatch :
    (portRst (cycleX false ⟨0#1, 0x235E8, 0b00#2⟩) = false ∧ portRst (cycleX true ⟨0#1, 0, 0b11#2⟩) = false) ∧
    (blockAfter (step (cycleX false ⟨0#1, 0x235E8, 0b00#2⟩))).map (fun b => (b.ready, b.code)) =
      some (true, 0xABCDE1#24) ∧
    (blockAfter (step (cycleX true ⟨0#1, 0, 0b11#2⟩))).map (·.ready) = some false := by decide
theorem witness_FrameStateChangesOnlyInRise :
    portRst (cycleX true ⟨0#1, 0x1044C, 0b10#2⟩) = false ∧ fetchEdge (cycleX true ⟨0#1, 0x1044C, 0b10#2⟩) = .fall 1100 ∧
    ∃ t, step (cycleX true ⟨0#1, 0x1044C, 0b10#2⟩) = .next t := ⟨by decide, by decide, ⟨_, rfl⟩⟩
theorem witness_ReadyStaysUntilTaken :
    (blockX true).ready = true ∧ (∀ w ∈ ([0#1, 0#1] : List CtrlWord).take 2, w = 0#1) ∧
    (∀ w ∈ ([0b01#2, 0b00#2] : List ReadWord).take 2, w = 0b00#2 ∨ w = 0b01#2) := by decide
theorem witness_RunIsTheSequenceOfItsOperations :
    ∀ w ∈ (cycleX true ⟨0#1, 0x235E8, 0b10#2⟩).rstIn.take 1, w = 0#1 := by decide

/-- The clauses of the fault record: RESET, EDGE_IDLE, the reserved word, and FALL and RISE at and above `MAX_TICK`. -/
theorem witness_FaultRecordOfACycle :
    portRst (cycleX true ⟨1#1, 0x335E8, 0⟩) = true ∧ fetchEdge (cycleX true ⟨0#1, 0, 0⟩) = .edgeIdle 0 ∧
    portRst (cycleX true ⟨0#1, 0x335E8, 0⟩) = false ∧
    fetchEdge (cycleX true ⟨0#1, 0x335E8, 0⟩) = .edgeReserved 0x35E8 ∧
    faultsAfter (step (withInputs [⟨0#1, 0x1EA60, 0⟩] (shortState Block.reset))) = some [] ∧
    faultsAfter (step (withInputs [⟨0#1, 0x1EA61, 0⟩] (shortState Block.reset))) =
      some [⟨0, .timestampRange, 0x1EA61⟩] ∧
    faultsAfter (step (withInputs [⟨0#1, 0x2EA61, 0⟩] (shortState Block.reset))) =
      some [⟨0, .timestampRange, 0x2EA61⟩] := by decide
theorem witness_FaultingEdgeLeavesReaderOperation :
    ∃ t, step (cycleX true ⟨0#1, 0x335E8, 0b10#2⟩) = .next t ∧
      t.faults ≠ (cycleX true ⟨0#1, 0x335E8, 0b10#2⟩).faults := ⟨_, rfl, by decide⟩
theorem witness_DefaultMaxTickNeverFaultsOnTime :
    (cycleX true ⟨0#1, 0x335E8, 0b10#2⟩).params.maxTick = 2 ^ (cycleX true ⟨0#1, 0x335E8, 0b10#2⟩).params.tickW - 1 := by
  decide
theorem witness_StepKeepsInvariant : measured.Inv ∧ ∃ t, step (withInputs [⟨0#1, 0x20C80, 0⟩] measured) = .next t :=
  ⟨by decide, ⟨_, rfl⟩⟩
theorem witness_LaunchStateMeetsInvariant : (params .low).Wf ∧ (params .high).Wf := by decide
theorem witness_AssembledCycleCarriesItsItems :
    assemble 16 [.rise 7265, .take] = some ⟨0#1, 0x21C61, 0b10#2⟩ ∧
    itemsOn .ctrl [.rise 7265, .take] = [] := by decide
theorem witness_PulseIsFallThenRise : 1100 < 2 ^ pulses.params.tickW ∧ 0xFFFF < 2 ^ pulses.params.tickW := by decide

end Sys2Proof.Tests
end

