-- ==== Sys2Proof/Proofs/Scope.lean ====
section
/-! PROOF. Completion of operations and steps (R16), the cycle that records a fault (R15, R133), and the invariant of
R31 at the launch state and along a step. -/

namespace Sys2Proof.Machine

/-! ### Completion -/

theorem exec_completes (i : Instr) (s : State) : ∃ t, exec i s = .next t := by
  cases i with
  | edgeIdle time => exact ⟨_, exec_edgeIdle time s⟩
  | fall now => exact ⟨_, exec_fall now s⟩
  | rise now => exact ⟨_, exec_rise now s⟩
  | edgeReserved time => exact ⟨_, exec_edgeReserved time s⟩
  | readIdle => exact ⟨_, exec_readIdle s⟩
  | isValid => exact ⟨_, exec_isValid s⟩
  | takeCode => exact ⟨_, exec_takeCode s⟩
  | getInfo => exact ⟨_, exec_getInfo s⟩
  | reset => exact ⟨_, exec_reset s⟩

theorem step_completes (s : State) : ∃ t, step s = .next t := by
  cases h : portRst s with
  | true => exact ⟨_, step_rst h⟩
  | false => exact ⟨_, step_run h⟩

/-- Settles O34: each meaning and each kind of cycle has its equation with a next state. -/
theorem everyOperationAndStepCompletes : Obligations.EveryOperationAndStepCompletes :=
  ⟨exec_completes, step_completes⟩

/-! ### The faults of a cycle -/

/-- An edge operation records nothing, or it records one fault of its own cycle and writes no element of the block (R15,
R132). -/
theorem edgeFaults_cases (i : Instr) (p : Params) (k : Nat) :
    edgeFaults i p k = [] ∨
    ∃ r : FaultRecord, r.cycle = k ∧ edgeFaults i p k = [r] ∧ ∀ b, afterEdge i p b = b := by
  cases i with
  | edgeIdle _ | readIdle | isValid | takeCode | getInfo | reset => exact .inl rfl
  | edgeReserved _ => exact .inr ⟨_, rfl, rfl, fun _ => rfl⟩
  | fall now | rise now =>
    cases h : inRange p now with
    | true => exact .inl (by simp [edgeFaults, h])
    | false => exact .inr ⟨⟨k, .timestampRange, _⟩, rfl, if_neg (by simp [h]), by simp [afterEdge, h]⟩

/-- Settles O43: a RESET cycle records nothing, and in another cycle that records a fault the edge operation leaves the
block as the reader operation left it. -/
theorem faultingEdgeLeavesReaderOperation : Obligations.FaultingEdgeLeavesReaderOperation := by
  intro s t hstep hfaults
  cases hrst : portRst s with
  | true =>
    cases (step_rst hrst).symm.trans hstep
    exact absurd rfl hfaults
  | false =>
    cases (step_run hrst).symm.trans hstep
    rcases edgeFaults_cases (fetchEdge s) s.params s.cycle with hnone | ⟨_, _, _, hblock⟩
    · exact absurd (by simp [hnone]) hfaults
    · exact ⟨(hblock _).trans (afterRead_eq s), rfl⟩

/-- The record stays in order over a cycle that adds nothing to it. -/
theorem FaultsInOrder.succ {k : Nat} {fs : List FaultRecord} (h : FaultsInOrder k fs) : FaultsInOrder (k + 1) fs :=
  ⟨h.1, fun r hr => Nat.lt_succ_of_lt (h.2 r hr)⟩

/-- The record stays in order over a cycle that adds one fault of its own. -/
theorem FaultsInOrder.concat {k : Nat} {fs : List FaultRecord} {r : FaultRecord} (h : FaultsInOrder k fs)
    (hr : r.cycle = k) : FaultsInOrder (k + 1) (fs ++ [r]) := by
  obtain ⟨hsorted, hpast⟩ := h
  constructor
  · have hlast : ∀ a ∈ fs, a.cycle < r.cycle := by simpa [hr] using hpast
    simpa [List.pairwise_append, hsorted] using hlast
  · intro a ha
    rcases List.mem_append.mp ha with hold | hnew
    · exact Nat.lt_succ_of_lt (hpast a hold)
    · rw [List.mem_singleton.mp hnew, hr]
      exact Nat.lt_succ_self k

/-- The record stays in order over the edge operation of a cycle. -/
theorem FaultsInOrder.append_edgeFaults {k : Nat} {fs : List FaultRecord} (h : FaultsInOrder k fs) (i : Instr)
    (p : Params) : FaultsInOrder (k + 1) (fs ++ edgeFaults i p k) := by
  rcases edgeFaults_cases i p k with hnone | ⟨r, hcycle, hone, _⟩
  · simpa only [hnone, List.append_nil] using h.succ
  · simpa only [hone] using h.concat hcycle

/-! ### The frame part of the invariant: items 2 and 3 of R31 -/

/-- What reset, an abort and a completed frame leave (R31 item 2). -/
theorem Block.FrameInv.of_idle {b : Block} (hs : b.sync = false) (hi : b.idx = 0) (ha : b.acc = 0#24) :
    b.FrameInv :=
  ⟨fun _ => ⟨hi, ha⟩, fun h => by simp [hs] at h⟩

theorem openFrame_frameInv (b : Block) : (openFrame b).FrameInv := by simp [Block.FrameInv]

theorem toNat_setSymbolBit (acc : Frame) (idx : Fin 24) :
    (setSymbolBit acc idx).toNat = acc.toNat ||| 2 ^ (23 - idx.val) := by
  have hfits : 2 ^ (23 - idx.val) < 2 ^ 24 := Nat.pow_lt_pow_right (by decide) (by omega)
  rw [setSymbolBit, BitVec.toNat_or, ← BitVec.twoPow_eq, BitVec.toNat_twoPow, Nat.mod_eq_of_lt hfits]

/-- The symbol at position `idx` sets at most bit `23 - idx` (R91), so the bits below that one stay empty. -/
theorem accumulate_below (bit : Bool) {b : Block} (h : b.acc.toNat % 2 ^ (24 - b.idx.val) = 0) :
    (accumulate bit b).toNat % 2 ^ (24 - (b.idx.val + 1)) = 0 := by
  have hacc : b.acc.toNat % 2 ^ (23 - b.idx.val) = 0 :=
    Nat.mod_eq_zero_of_dvd <|
      Nat.dvd_trans (Nat.pow_dvd_pow 2 (show 23 - b.idx.val ≤ 24 - b.idx.val by omega)) (Nat.dvd_of_mod_eq_zero h)
  rw [show 24 - (b.idx.val + 1) = 23 - b.idx.val by omega]
  cases bit with
  | false => exact hacc
  | true =>
    change (setSymbolBit b.acc b.idx).toNat % _ = 0
    rw [toNat_setSymbolBit, Nat.or_mod_two_pow, hacc, Nat.mod_self, Nat.or_self]

theorem acceptSymbol_frameInv (bit : Bool) {b : Block} (hsync : b.sync = true) (h : b.FrameInv) :
    (acceptSymbol bit b).FrameInv := by
  rcases acceptSymbol_cases bit b with ⟨_, hnext⟩ | ⟨_, hlatch⟩
  · rw [hnext]
    exact ⟨fun hidle => absurd (hsync.symm.trans hidle) (by decide), fun _ => accumulate_below bit (h.2 hsync)⟩
  · rw [hlatch]
    exact .of_idle rfl rfl rfl

/-- Every class keeps the frame part: a SYNC establishes it, the others preserve it. -/
theorem frameStep_frameInv (c : PulseClass) {b : Block} (h : b.FrameInv) : (frameStep c b).FrameInv := by
  rcases frameStep_cases c b with ⟨_, hopen⟩ | ⟨_, _, hstay⟩ | ⟨_, _, hclose⟩ | ⟨_, hsync, haccept⟩
  · exact hopen ▸ openFrame_frameInv b
  · exact hstay.symm ▸ h
  · exact hclose ▸ .of_idle rfl rfl rfl
  · exact haccept ▸ acceptSymbol_frameInv _ hsync h

/-! ### The block part of the invariant -/

/-- The part of `State.Inv` that speaks of the block. -/
abbrev Block.Inv (maxTick : Nat) (b : Block) : Prop := b.FrameInv ∧ b.TickInv maxTick ∧ b.ZeroHighInv

theorem resetBlock_inv (maxTick : Nat) : resetBlock.Inv maxTick :=
  ⟨.of_idle rfl rfl rfl, by simp [Block.TickInv, resetBlock, Block.reset], fun _ => rfl⟩

/-- The block part says nothing of `ready`, the one element a reader operation writes. -/
theorem afterRead_inv {maxTick : Nat} {s : State} (h : s.block.Inv maxTick) : (afterRead s).Inv maxTick := by
  rw [afterRead_eq]
  exact h

/-- A duration of 0 ends at timestamp 0 (R86 item 2): equal nonzero timestamps are a whole period apart. -/
theorem stop_eq_zero_of_dur_eq_zero {maxTick start stop : Nat} (h : dur maxTick start stop = 0) : stop = 0 := by
  rcases Nat.lt_or_ge start stop with hlt | hle
  · rw [dur_of_lt hlt] at h
    omega
  · rw [dur_of_le hle] at h
    omega

theorem fallBlock_inv {p : Params} {now : Nat} {b : Block} (hnow : now ≤ p.maxTick) (h : b.Inv p.maxTick) :
    (fallBlock p now b).Inv p.maxTick := by
  obtain ⟨hframe, ⟨hRise, _, _, hLow⟩, _⟩ := h
  exact ⟨hframe, ⟨hRise, hnow, dur_le hRise hnow, hLow⟩, stop_eq_zero_of_dur_eq_zero⟩

theorem riseBlock_inv {p : Params} {now : Nat} {b : Block} (hnow : now ≤ p.maxTick) (h : b.Inv p.maxTick) :
    (riseBlock p now b).Inv p.maxTick := by
  obtain ⟨hframe, ⟨_, hFall, hHigh, _⟩, hzero⟩ := h
  have hLow : lowDuration p now b ≤ p.maxTick := dur_le hFall hnow
  exact ⟨frameStep_frameInv _ hframe, by simp [Block.TickInv, *], by simpa [Block.ZeroHighInv] using hzero⟩

theorem afterEdge_fall (now : Nat) (p : Params) (b : Block) :
    afterEdge (.fall now) p b = if inRange p now then fallBlock p now b else b := rfl

theorem afterEdge_rise (now : Nat) (p : Params) (b : Block) :
    afterEdge (.rise now) p b = if inRange p now then riseBlock p now b else b := rfl

theorem afterEdge_inv (i : Instr) {p : Params} {b : Block} (h : b.Inv p.maxTick) :
    (afterEdge i p b).Inv p.maxTick := by
  cases i with
  | edgeIdle _ | edgeReserved _ | readIdle | isValid | takeCode | getInfo | reset => exact h
  | fall now =>
    rw [afterEdge_fall]
    split
    next hin => exact fallBlock_inv (inRange_iff.mp hin) h
    next => exact h
  | rise now =>
    rw [afterEdge_rise]
    split
    next hin => exact riseBlock_inv (inRange_iff.mp hin) h
    next => exact h

/-! ### The invariant of the machine -/

/-- The invariant, with its block part as one. -/
theorem State.inv_iff (s : State) :
    s.Inv ↔ s.params.Wf ∧ s.block.Inv s.params.maxTick ∧ FaultsInOrder s.cycle s.faults := by
  simp only [State.Inv, Block.Inv, and_assoc]

theorem resetOf_inv {p : Params} (h : p.Wf) : (State.resetOf p).Inv :=
  (State.inv_iff _).mpr ⟨h, resetBlock_inv p.maxTick, .nil, by simp [State.resetOf]⟩

theorem standard_wf (profile : Profile) : (Params.standard profile).Wf := by
  simp [Params.Wf, Params.standard, Config.defaultTickW, Config.defaultMaxTick]

/-- Settles O48: the reset block meets the block part, nothing is recorded, and the default parameters are legal. -/
theorem launchStateMeetsInvariant : Obligations.LaunchStateMeetsInvariant :=
  ⟨fun _ h => resetOf_inv h, resetOf_inv (standard_wf _)⟩

/-- Settles O49, by the two kinds of cycle: RESET establishes the block part, and otherwise the reader operation and
then the edge operation keep it; the record grows by the edge operation's faults alone. -/
theorem stepKeepsInvariant : Obligations.StepKeepsInvariant := by
  intro s t hinv hstep
  obtain ⟨hparams, hblock, hfaults⟩ := s.inv_iff.mp hinv
  rw [State.inv_iff]
  cases hrst : portRst s with
  | true =>
    cases (step_rst hrst).symm.trans hstep
    exact ⟨hparams, resetBlock_inv _, hfaults.succ⟩
  | false =>
    cases (step_run hrst).symm.trans hstep
    exact ⟨hparams, afterEdge_inv _ (afterRead_inv hblock), hfaults.append_edgeFaults _ _⟩

end Sys2Proof.Machine
end

section
/-! PROOF. The state and its elements: the launch state (R34), what a step keeps and uses up (R35, R160), the elements
nothing reads (R27), how long `ready` stays (R53), and what a set `ready` says of the classes so far (R29). -/

namespace Sys2Proof.Machine

/-! ### The launch state -/

/-- Settles O30: the block is `Block.reset`, and the empty streams present the idle words. -/
theorem launchStateIsReset : Obligations.LaunchStateIsReset :=
  ⟨rfl, rfl, rfl, rfl, rfl, rfl, rfl, rfl, rfl, rfl, rfl, rfl, rfl, rfl⟩

/-! ### The fields around the block -/

/-- Settles O45: either kind of cycle ends with `endCycle`, and no operation writes the fields in question. -/
theorem stepKeepsParametersAndAdvances : Obligations.StepKeepsParametersAndAdvances := by
  intro s t hstep
  cases hrst : portRst s with
  | true =>
    cases (step_rst hrst).symm.trans hstep
    exact ⟨rfl, rfl, rfl, rfl, rfl⟩
  | false =>
    cases (step_run hrst).symm.trans hstep
    exact ⟨rfl, rfl, rfl, rfl, rfl⟩

/-! ### `d_low` is written and never read -/

/-- The state with another `d_low`. -/
def withLowDuration (x : Nat) (s : State) : State := setBlock { s.block with dLow := x } s

/-- No reader operation delivers `d_low`. -/
theorem readReturn_dLow (i : Instr) (b : Block) (x : Nat) : readReturn i { b with dLow := x } = readReturn i b := by
  cases i <;> rfl

theorem afterRead_withLowDuration (s : State) (x : Nat) :
    afterRead (withLowDuration x s) = { afterRead s with dLow := x } := by
  simp only [afterRead_eq]
  rfl

/-- A RISE replaces `d_low`, and every other edge operation carries it along; neither reads it (R83, R91). -/
theorem afterEdge_dLow (i : Instr) (p : Params) (b : Block) (x : Nat) :
    ∃ y, afterEdge i p { b with dLow := x } = { afterEdge i p b with dLow := y } := by
  cases i with
  | edgeIdle _ | edgeReserved _ | readIdle | isValid | takeCode | getInfo | reset => exact ⟨x, rfl⟩
  | fall now =>
    refine ⟨x, ?_⟩
    simp only [afterEdge_fall]
    split <;> rfl
  | rise now =>
    simp only [afterEdge_rise]
    split
    next => exact ⟨lowDuration p now b, by rw [← riseBlock_dLow p now b]; rfl⟩
    next => exact ⟨x, rfl⟩

/-- Settles O46: a RESET cycle leaves the reset block whatever `d_low` was; in another, the words presented, the outputs,
the value delivered and the faults do not depend on it, and the block does in `d_low` alone. -/
theorem lowDurationHasNoObserver : Obligations.LowDurationHasNoObserver := by
  intro s t x hstep
  change ∃ y, step (withLowDuration x s) = _
  have hreturned : readReturn (fetchRead (withLowDuration x s)) (withLowDuration x s).block =
      readReturn (fetchRead s) s.block := readReturn_dLow _ s.block x
  cases hrst : portRst s with
  | true =>
    cases (step_rst hrst).symm.trans hstep
    refine ⟨resetBlock.dLow, ?_⟩
    rw [step_rst (s := withLowDuration x s) hrst, hreturned]
    rfl
  | false =>
    cases (step_run hrst).symm.trans hstep
    obtain ⟨y, hblock⟩ := afterEdge_dLow (fetchEdge s) s.params (afterRead s) x
    rw [← afterRead_withLowDuration] at hblock
    refine ⟨y, ?_⟩
    rw [step_run (s := withLowDuration x s) hrst, hreturned,
      show afterEdge (fetchEdge (withLowDuration x s)) (withLowDuration x s).params _ = _ from hblock]
    rfl

/-! ### `ready` stays until it is taken -/

/-- The frame machine raises `ready` at a latch and never clears it (R53, R91). -/
theorem frameStep_keeps_ready (c : PulseClass) {b : Block} (h : b.ready = true) : (frameStep c b).ready = true :=
  (congrArg Block.ready (frameStep_ready c b b.ready)).trans (by simp [h])

theorem afterEdge_keeps_ready (i : Instr) (p : Params) {b : Block} (h : b.ready = true) :
    (afterEdge i p b).ready = true := by
  cases i with
  | edgeIdle _ | edgeReserved _ | readIdle | isValid | takeCode | getInfo | reset => exact h
  | fall now =>
    rw [afterEdge_fall]
    split <;> exact h
  | rise now =>
    rw [afterEdge_rise]
    split
    next => exact frameStep_keeps_ready _ h
    next => exact h

theorem portRst_eq_false {s : State} (h : s.rstIn.headD 0#1 = 0#1) : portRst s = false := by
  rw [portRst, h]
  rfl

/-- READ_IDLE and IS_VALID write no element of the block (R110, R113). -/
theorem afterRead_of_not_taken {s : State} (h : portRead s = 0b00#2 ∨ portRead s = 0b01#2) :
    afterRead s = s.block := by
  have hfetch : ¬ (fetchRead s = .takeCode ∨ fetchRead s = .getInfo) := by
    rcases h with hidle | hvalid
    · simp [fetchRead, hidle, readInstr]
    · simp [fetchRead, hvalid, readInstr]
  exact if_neg hfetch

theorem step_keeps_ready {s : State} (hready : s.block.ready = true) (hrst : s.rstIn.headD 0#1 = 0#1)
    (hread : portRead s = 0b00#2 ∨ portRead s = 0b01#2) :
    ∃ t, step s = .next t ∧ t.block.ready = true ∧ t.rstIn = s.rstIn.tail ∧ t.readIn = s.readIn.tail := by
  refine ⟨_, step_run (portRst_eq_false hrst), ?_, rfl, rfl⟩
  rw [endCycle_block, afterRead_of_not_taken hread]
  exact afterEdge_keeps_ready _ _ hready

/-- What holds of the next `n + 1` words of a stream, and of the word presented when none is left, holds of the word
presented now and of the next `n` words after it. -/
theorem forall_mem_take_succ {α : Type} {P : α → Prop} {d : α} {n : Nat} {ws : List α} (hd : P d)
    (h : ∀ w ∈ ws.take (n + 1), P w) : P (ws.headD d) ∧ ∀ w ∈ ws.tail.take n, P w := by
  cases ws with
  | nil => exact ⟨hd, by simp⟩
  | cons w ws => simpa using h

/-- Settles O40, by induction on the number of cycles: each keeps `ready`, and the words to come stay as assumed. -/
theorem readyStaysUntilTaken : Obligations.ReadyStaysUntilTaken := by
  intro n
  induction n with
  | zero => exact fun s hready _ _ => ⟨s, rfl, hready⟩
  | succ n ih =>
    intro s hready hrst hread
    obtain ⟨hrstNow, hrstLater⟩ := forall_mem_take_succ (P := (· = 0#1)) rfl hrst
    obtain ⟨hreadNow, hreadLater⟩ := forall_mem_take_succ (P := fun w => w = 0b00#2 ∨ w = 0b01#2) (.inl rfl) hread
    obtain ⟨t, hstep, hready', hrstIn, hreadIn⟩ := step_keeps_ready hready hrstNow hreadNow
    rw [run_succ n hstep]
    exact ih t hready' (hrstIn ▸ hrstLater) (hreadIn ▸ hreadLater)

/-! ### The symbols a frame holds -/

/-- `acc` holds the bits of the symbols accepted so far, the first in bit 23, and no bit of a symbol to come (R23,
R43). -/
def HoldsSymbols (acc : Frame) (syms : List PulseClass) : Prop :=
  (∀ c ∈ syms, isSymbol c = true) ∧ ∀ j < 24, acc.getLsbD (23 - j) = (syms.map symbolBit).getD j false

/-- An opened frame holds no symbol (R91). -/
theorem holdsSymbols_nil : HoldsSymbols 0#24 [] := ⟨by simp, by simp⟩

/-- The bits of `acc` after a symbol: the bit at the symbol's position gets its value, the others stay. -/
theorem getLsbD_accumulate (bit : Bool) (b : Block) {j : Nat} (hj : j < 24) :
    (accumulate bit b).getLsbD (23 - j) = (b.acc.getLsbD (23 - j) || (bit && decide (j = b.idx.val))) := by
  cases bit with
  | false => simp [accumulate]
  | true =>
    have hpos : 23 - j = 23 - b.idx.val ↔ j = b.idx.val := by omega
    simp [accumulate, getLsbD_setSymbolBit, hpos]

/-- A symbol accepted at the position that counts the symbols so far is the next one held (R91). -/
theorem HoldsSymbols.concat {b : Block} {syms : List PulseClass} {c : PulseClass} (h : HoldsSymbols b.acc syms)
    (hlen : syms.length = b.idx.val) (hc : isSymbol c = true) :
    HoldsSymbols (accumulate (symbolBit c) b) (syms ++ [c]) := by
  obtain ⟨hsyms, hbits⟩ := h
  refine ⟨by simpa [or_imp, forall_and] using ⟨hsyms, hc⟩, fun j hj => ?_⟩
  rw [getLsbD_accumulate _ _ hj, hbits j hj, ← hlen]
  rcases Nat.lt_trichotomy j syms.length with hlt | heq | hgt
  · simp [List.getElem?_append_left, hlt, Nat.ne_of_lt hlt]
  · simp [heq]
  · simp [List.getElem?_eq_none, Nat.le_of_lt hgt, Nat.ne_of_gt hgt, Nat.succ_le_of_lt hgt]

/-- A frame of 24 symbols is one that `code` can carry (R43, R93). -/
theorem HoldsSymbols.carriesSymbols {code : Frame} {syms : List PulseClass} (h : HoldsSymbols code syms)
    (hlen : syms.length = 24) : CarriesSymbols code syms := by
  obtain ⟨hsyms, hbits⟩ := h
  refine ⟨hlen, hsyms, fun j hj => ?_⟩
  simpa [hj] using hbits j (hlen ▸ hj)

/-! ### What the elements say of the classes so far -/

/-- The classes `cs` end in a SYNC and the symbols of the frame under way (R21, R22, R23). -/
def FrameUnderWay (cs : List PulseClass) (b : Block) : Prop :=
  ∃ pre mid, cs = pre ++ .sync :: mid ∧ mid.length = b.idx.val ∧ HoldsSymbols b.acc mid

/-- The classes `cs` hold a SYNC and 24 symbols in a row, whose bits `code` carries (R93). -/
def FrameSeen (cs : List PulseClass) (code : Frame) : Prop :=
  ∃ pre mid post, cs = pre ++ .sync :: (mid ++ post) ∧ CarriesSymbols code mid

/-- What `sync` and `ready` say of the classes `cs` since an Idle state with `ready = 0` (R21, R29). -/
structure FrameHistory (cs : List PulseClass) (b : Block) : Prop where
  receiving : b.sync = true → FrameUnderWay cs b
  latched : b.ready = true → FrameSeen cs b.code

/-- A frame once seen stays seen. -/
theorem FrameSeen.append {cs : List PulseClass} {code : Frame} (h : FrameSeen cs code) (cs' : List PulseClass) :
    FrameSeen (cs ++ cs') code := by
  obtain ⟨pre, mid, post, rfl, hcarries⟩ := h
  exact ⟨pre, mid, post ++ cs', by simp, hcarries⟩

/-- In Idle the history is a matter of `ready` and `code` alone. -/
theorem FrameHistory.of_idle {cs : List PulseClass} {b : Block} (hidle : b.sync = false)
    (h : b.ready = true → FrameSeen cs b.code) : FrameHistory cs b :=
  ⟨fun hsync => absurd (hidle.symm.trans hsync) (by decide), h⟩

/-- A symbol in a frame under way: the frame grows by it, or, as the 24th, completes it (R91). -/
theorem acceptSymbol_frameHistory {c : PulseClass} {cs : List PulseClass} {b : Block} (hc : isSymbol c = true)
    (hsync : b.sync = true) (h : FrameHistory cs b) : FrameHistory (cs ++ [c]) (acceptSymbol (symbolBit c) b) := by
  obtain ⟨pre, mid, hcs, hlen, hholds⟩ := h.receiving hsync
  have hgrown := hholds.concat hlen hc
  rcases acceptSymbol_cases (symbolBit c) b with ⟨_, hnext⟩ | ⟨hlast, hlatch⟩
  · rw [hnext]
    exact ⟨fun _ => ⟨pre, mid ++ [c], by simp [hcs], by simp [hlen], hgrown⟩,
      fun hready => (h.latched hready).append [c]⟩
  · rw [hlatch]
    exact .of_idle rfl fun _ =>
      ⟨pre, mid ++ [c], [], by simp [hcs], hgrown.carriesSymbols (by simp [hlen, hlast])⟩

/-- The frame machine on a class keeps the history, with that class at its end (R91, R92). -/
theorem frameStep_frameHistory (c : PulseClass) {cs : List PulseClass} {b : Block} (h : FrameHistory cs b) :
    FrameHistory (cs ++ [c]) (frameStep c b) := by
  have hseen : b.ready = true → FrameSeen (cs ++ [c]) b.code := fun hready => (h.latched hready).append [c]
  rcases frameStep_cases c b with ⟨rfl, hopen⟩ | ⟨_, hidle, hstay⟩ | ⟨_, _, hclose⟩ | ⟨hc, hsync, haccept⟩
  · rw [hopen]
    exact ⟨fun _ => ⟨cs, [], rfl, rfl, holdsSymbols_nil⟩, hseen⟩
  · rw [hstay]
    exact .of_idle hidle hseen
  · rw [hclose]
    exact .of_idle rfl hseen
  · rw [haccept]
    exact acceptSymbol_frameHistory hc hsync h

/-- An operation other than RESET keeps the history: a RISE in range steps the frame machine on its class, and the others
have no class and write neither the frame nor `code`, and `ready` only to clear it. -/
theorem exec_frameHistory {i : Instr} {cs : List PulseClass} {s t : State} (hi : i ≠ .reset)
    (hexec : exec i s = .next t) (h : FrameHistory cs s.block) : FrameHistory (cs ++ classOf i s) t.block := by
  have hclear : FrameHistory cs (clearReady s.block) := ⟨h.receiving, fun hready => by simp at hready⟩
  cases i with
  | reset => exact absurd rfl hi
  | edgeIdle _ | edgeReserved _ | readIdle | isValid =>
    cases hexec
    simpa [classOf] using h
  | takeCode | getInfo =>
    cases hexec
    simpa [classOf] using hclear
  | fall now =>
    rw [exec_fall] at hexec
    cases hexec
    rw [classOf, List.append_nil]
    split
    next => exact ⟨h.receiving, h.latched⟩
    next => exact h
  | rise now =>
    rw [exec_rise] at hexec
    cases hexec
    rw [classOf]
    split
    next => exact frameStep_frameHistory _ ⟨h.receiving, h.latched⟩
    next => simpa using h

/-- A sequence without RESET keeps the history, with its classes at its end. -/
theorem execAll_frameHistory {is : List Instr} {cs : List PulseClass} {s t : State} (hnoReset : NoReset is)
    (hexec : execAll is s = .next t) (h : FrameHistory cs s.block) : FrameHistory (cs ++ classesOf is s) t.block := by
  induction is generalizing cs s with
  | nil =>
    cases hexec
    simpa [classesOf] using h
  | cons i is ih =>
    obtain ⟨u, hu⟩ := exec_completes i s
    obtain ⟨hi, his⟩ := List.forall_mem_cons.mp hnoReset
    rw [execAll_cons hu] at hexec
    rw [classesOf_cons hu, ← List.append_assoc]
    exact ih his hexec (exec_frameHistory hi hu h)

/-- Settles O20: the history holds with no classes yet in an Idle state with `ready = 0`, and the sequence keeps it. -/
theorem readyMeansFullyValidFrame : Obligations.ReadyMeansFullyValidFrame := by
  intro is s t hidle hnotReady hnoReset hexec hready
  have hstart : FrameHistory [] s.block := .of_idle hidle (by simp [hnotReady])
  exact (execAll_frameHistory hnoReset hexec hstart).latched hready

end Sys2Proof.Machine
end

section
/-! PROOF. The cycle: a step as the operations its words decode to (R135, R150, R153), the parallel update of the
registers in which set wins over clear (R47, R154), and a run as the sequence of its operations (R50). -/

namespace Sys2Proof.Machine

/-! ### The words of a cycle and the operations they decode to -/

theorem decode_portRead (tickW : Nat) (s : State) :
    decode tickW .read (portRead s).toNat = .ok (fetchRead s) := by
  simp [decode, decodeRead, fetchRead, (portRead s).isLt]

theorem decode_portEdge (s : State) : decode s.params.tickW .edge (portEdge s) = .ok (fetchEdge s) :=
  if_pos (portEdge_lt s)

/-- The decoder reads RESET from no CTRL word but `rst = 1` (R65). -/
theorem portRst_of_decode_reset {tickW : Nat} {s : State}
    (h : decode tickW .ctrl (s.rstIn.headD 0#1).toNat = .ok .reset) : portRst s = true := by
  have hword : ∀ w : CtrlWord, decodeCtrl w.toNat = .ok .reset → (w == 1#1) = true := by decide
  exact hword _ h

/-! ### A step without RESET, as two operations -/

/-- A step without RESET performs the reader operation and then the edge operation (R153). -/
theorem step_eq_read_then_edge {s : State} (h : portRst s = false) :
    ∃ s1 s2, exec (fetchRead s) (beginCycle s) = .next s1 ∧ exec (fetchEdge s) s1 = .next s2 ∧
      step s = .next (endCycle s2) := by
  obtain ⟨s1, hread⟩ := exec_completes (fetchRead s) (beginCycle s)
  obtain ⟨s2, hedge⟩ := exec_completes (fetchEdge s) s1
  refine ⟨s1, s2, hread, hedge, ?_⟩
  simp [step, cycle, h, cycleRun, hread, hedge]

/-- Settles O32: every word of a cycle decodes to the operation the step fetches from it. -/
theorem stepRunsDecodedOperations : Obligations.StepRunsDecodedOperations := by
  intro s r e hr he
  cases (decode_portRead s.params.tickW s).symm.trans hr
  cases (decode_portEdge s).symm.trans he
  exact ⟨step_eq_read_then_edge,
    fun hreset => ⟨_, exec_reset _, step_rst (portRst_of_decode_reset hreset)⟩⟩

/-! ### Set wins over clear -/

/-- The RISE that completes a frame: in range, of a class that completes one (R91). -/
theorem completes_rise (now : Nat) (s : State) : completes (.rise now) s =
    (inRange s.params now && classCompletes (riseClass s.params now s.block) s.block) := by
  cases hin : inRange s.params now <;> simp [completes, classOf, classCompletes, hin]

/-- An edge operation does not read `ready`, and writes it only where it completes a frame: what the reader left in
`ready` stays or is set, and the rest of the block is as without the reader (R47, R153). -/
theorem afterEdge_ready (i : Instr) (s : State) (r : Bool) :
    afterEdge i s.params { s.block with ready := r } =
      { afterEdge i s.params s.block with ready := if completes i s then true else r } := by
  cases i with
  | edgeIdle _ | edgeReserved _ | readIdle | isValid | takeCode | getInfo | reset =>
    simp [afterEdge, completes, classOf]
  | fall now =>
    simp only [afterEdge_fall, completes, classOf, List.any_nil, Bool.and_false]
    split <;> rfl
  | rise now =>
    simp only [afterEdge_rise, completes_rise]
    cases inRange s.params now with
    | false => rfl
    | true =>
      exact frameStep_ready (riseClass s.params now s.block)
        { s.block with dLow := lowDuration s.params now s.block, tRise := now } r

/-- An operation that completes a frame sets `ready` (R49). -/
theorem afterEdge_ready_of_completes {i : Instr} {s : State} (h : completes i s = true) :
    (afterEdge i s.params s.block).ready = true :=
  (congrArg Block.ready (afterEdge_ready i s s.block.ready)).trans (if_pos h)

/-- Settles O36: the reader operation changes `ready` alone, and of that the edge operation keeps what it does not
set. -/
theorem cycleIsParallelUpdate : Obligations.CycleIsParallelUpdate := by
  intro s e t hrst hedge hstep
  cases (exec_edge (portOf_fetchEdge s) s).symm.trans hedge
  cases (step_run hrst).symm.trans hstep
  refine ⟨?_, afterEdge_ready_of_completes, rfl⟩
  rw [endCycle_block, afterRead_eq]
  exact afterEdge_ready _ s _

/-- A reader operation is given its value from the block at the start of its cycle, with and without RESET (R114). -/
theorem step_returned {s t : State} {i : Instr} (hstep : step s = .next t) (hread : fetchRead s = i) :
    t.returned = readReturn i s.block := by
  subst hread
  cases hrst : portRst s with
  | true =>
    cases (step_rst hrst).symm.trans hstep
    rfl
  | false =>
    cases (step_run hrst).symm.trans hstep
    rfl

/-- Settles O37: set wins over clear in the parallel update, and the reader's value is that of the block at the start
of the cycle. -/
theorem completionSurvivesSameCycleRead : Obligations.CompletionSurvivesSameCycleRead := by
  intro s hrst hcompletes
  have hstep := step_run hrst
  have hedge := exec_edge (portOf_fetchEdge s) s
  obtain ⟨hblock, _, _⟩ := cycleIsParallelUpdate s _ _ hrst hedge hstep
  rw [if_pos hcompletes] at hblock
  exact ⟨_, _, hstep, hedge, by rw [hblock], by rw [hblock],
    step_returned hstep, step_returned hstep, step_returned hstep⟩

/-! ### A run as a sequence of operations -/

/-- Two states that agree in what an operation can read: the parameters and the block. They may differ in the model's
own fields: the cycle number, the record, the streams and the outputs. -/
structure SameBlock (s v : State) : Prop where
  params : s.params = v.params
  block : s.block = v.block

/-- An operation takes states that agree to states that agree. -/
theorem exec_sameBlock {i : Instr} {s v t : State} (h : SameBlock s v) (hexec : exec i s = .next t) :
    ∃ w, exec i v = .next w ∧ SameBlock t w := by
  obtain ⟨hparams, hblock⟩ := h
  cases i with
  | edgeIdle _ | edgeReserved _ | readIdle | isValid =>
    cases hexec
    exact ⟨_, rfl, hparams, hblock⟩
  | takeCode | getInfo =>
    cases hexec
    exact ⟨_, rfl, hparams, congrArg clearReady hblock⟩
  | reset =>
    cases hexec
    exact ⟨_, rfl, hparams, rfl⟩
  | fall now | rise now =>
    cases hexec
    refine ⟨_, rfl, ?_⟩
    rw [← hparams, ← hblock]
    split
    next => exact ⟨hparams, rfl⟩
    next => exact ⟨hparams, hblock⟩

/-- The operations to come are a matter of the agents' words and the tick width (R32, R70). -/
theorem opsOfCycles_congr {s t : State} (n : Nat) (hparams : s.params = t.params) (hedge : s.edgeIn = t.edgeIn)
    (hread : s.readIn = t.readIn) : opsOfCycles n s = opsOfCycles n t := by
  induction n generalizing s t with
  | zero => rfl
  | succ n ih =>
    have hrest := ih (s := endCycle s) (t := endCycle t) hparams (congrArg List.tail hedge) (congrArg List.tail hread)
    simp only [opsOfCycles, fetchRead, portRead, fetchEdge, portEdge, hparams, hedge, hread, hrest]

/-- The operations of `n + 1` cycles are those of the first and then those the state after its step presents. -/
theorem opsOfCycles_succ {s t : State} (n : Nat) (h : step s = .next t) :
    opsOfCycles (n + 1) s = fetchRead s :: fetchEdge s :: opsOfCycles n t := by
  obtain ⟨hparams, _, hedge, hread, _⟩ := stepKeepsParametersAndAdvances s t h
  rw [opsOfCycles, opsOfCycles_congr n (s := endCycle s) hparams.symm hedge.symm hread.symm]

/-- A step without RESET and its two operations take states that agree to states that agree. -/
theorem step_sameBlock {s v : State} (hrst : portRst s = false) (h : SameBlock s v) :
    ∃ t w, step s = .next t ∧ SameBlock t w ∧
      ∀ is, execAll (fetchRead s :: fetchEdge s :: is) v = execAll is w := by
  obtain ⟨s1, s2, hread, hedge, hstep⟩ := step_eq_read_then_edge hrst
  obtain ⟨v1, hread', hsame1⟩ := exec_sameBlock (s := beginCycle s) (v := v) ⟨h.params, h.block⟩ hread
  obtain ⟨v2, hedge', hsame2⟩ := exec_sameBlock hsame1 hedge
  exact ⟨endCycle s2, v2, hstep, ⟨hsame2.params, hsame2.block⟩,
    fun is => (execAll_cons hread').trans (execAll_cons hedge')⟩

/-- A run without RESET and the sequence of its operations, started in states that agree, end in states that agree: by
induction on the number of cycles. -/
theorem run_sameBlock (n : Nat) {s v : State} (hrst : ∀ w ∈ s.rstIn.take n, w = 0#1) (h : SameBlock s v) :
    ∃ t u, Host.Core.run Sys2Proof.core n s = .next t ∧ execAll (opsOfCycles n s) v = .next u ∧ SameBlock t u := by
  induction n generalizing s v with
  | zero => exact ⟨s, v, rfl, rfl, h⟩
  | succ n ih =>
    obtain ⟨hrstNow, hrstLater⟩ := forall_mem_take_succ (P := (· = 0#1)) rfl hrst
    obtain ⟨t, w, hstep, hsame, hops⟩ := step_sameBlock (portRst_eq_false hrstNow) h
    obtain ⟨_, _, _, _, hrstIn⟩ := stepKeepsParametersAndAdvances s t hstep
    rw [run_succ n hstep, opsOfCycles_succ n hstep, hops]
    exact ih (hrstIn ▸ hrstLater) hsame

/-- Settles O41: the run and the sequence start in the same state. -/
theorem runIsTheSequenceOfItsOperations : Obligations.RunIsTheSequenceOfItsOperations := by
  intro n s hrst
  obtain ⟨t, u, hrun, hops, hsame⟩ := run_sameBlock n hrst (v := s) ⟨rfl, rfl⟩
  exact ⟨t, u, hrun, hops, hsame.block⟩

end Sys2Proof.Machine
end

section
/-! PROOF. The encoding: the decoder and the encoder are inverse on the well-formed operations and the words that stand
for one (R62 to R66, R70, R71), and the words of single operations are cases of that. -/

namespace Sys2Proof.Machine

/-! ### EDGE words (R62, R63) -/

/-- The edge operation whose word stands on the EDGE port is read back from it. -/
theorem edgeInstr_encodeWord {tickW : Nat} {i : Instr} (hport : portOf i = .edge) (hwf : i.wellFormed tickW = true) :
    edgeInstr tickW (encodeWord tickW i) = i := by
  cases i with
  | edgeIdle time | fall time | rise time | edgeReserved time =>
    have htime : time < 2 ^ tickW := by simpa [Instr.wellFormed] using hwf
    simp [encodeWord, edgeInstr, edgeOpField_edgeWord htime, edgeTimeField_edgeWord htime]
  | readIdle | isValid | takeCode | getInfo | reset => cases hport

/-- An EDGE word that fits its port is the word of a well-formed edge operation. -/
theorem encode_edgeInstr {tickW w : Nat} (h : w < 2 ^ (tickW + 2)) :
    (edgeInstr tickW w).wellFormed tickW = true ∧ encode tickW (edgeInstr tickW w) = (.edge, w) := by
  have htime := edgeTimeField_lt tickW w
  have hword := edgeWord_of_fields h
  rcases edgeInstr_cases tickW w with ⟨hop, hi⟩ | ⟨hop, hi⟩ | ⟨hop, hi⟩ | ⟨hop, hi⟩
  all_goals
    rw [hop] at hword
    rw [hi]
    exact ⟨decide_eq_true htime, congrArg (Port.edge, ·) hword⟩

/-! ### READ words (R64) -/

theorem readInstr_encodeWord {tickW : Nat} {i : Instr} (hport : portOf i = .read) :
    readInstr (BitVec.ofNat 2 (encodeWord tickW i)) = i := by
  cases i with
  | edgeIdle _ | fall _ | rise _ | edgeReserved _ | reset => cases hport
  | readIdle | isValid | takeCode | getInfo => rfl

/-- Every READ word is the word of a well-formed reader operation: none is reserved. -/
theorem encode_readInstr (tickW : Nat) (w : ReadWord) :
    (readInstr w).wellFormed tickW = true ∧ encode tickW (readInstr w) = (.read, w.toNat) := by
  rcases readInstr_cases w with ⟨rfl, hi⟩ | ⟨rfl, hi⟩ | ⟨rfl, hi⟩ | ⟨rfl, hi⟩ <;> rw [hi] <;> exact ⟨rfl, rfl⟩

/-! ### The decoder, port by port -/

theorem decode_edge_eq_ok {tickW w : Nat} {i : Instr} :
    decode tickW .edge w = .ok i ↔ w < 2 ^ (tickW + 2) ∧ edgeInstr tickW w = i := by
  by_cases h : w < 2 ^ (tickW + 2) <;> simp [decode, decodeEdge, h]

theorem decode_read_eq_ok {tickW w : Nat} {i : Instr} :
    decode tickW .read w = .ok i ↔ w < 4 ∧ readInstr (BitVec.ofNat 2 w) = i := by
  by_cases h : w < 4 <;> simp [decode, decodeRead, h]

theorem decode_ctrl_eq_ok {tickW w : Nat} {i : Instr} : decode tickW .ctrl w = .ok i ↔ w = 1 ∧ i = .reset := by
  rcases w with _ | _ | w <;> simp [decode, decodeCtrl, eq_comm]

/-- RESET is the one operation on the CTRL port (R65). -/
theorem eq_reset_of_portOf {i : Instr} (h : portOf i = .ctrl) : i = .reset := by
  cases i with
  | reset => rfl
  | edgeIdle _ | fall _ | rise _ | edgeReserved _ | readIdle | isValid | takeCode | getInfo => cases h

/-! ### The encoder and the decoder are inverse -/

/-- The word of a well-formed operation fits the wires of its port (R62). -/
theorem encodeWord_lt {tickW : Nat} {i : Instr} (h : i.wellFormed tickW = true) :
    encodeWord tickW i < 2 ^ portWidth tickW (portOf i) := by
  have hfits : Laws.EncodeFits.Statement i := by
    cases i with
    | edgeIdle time => exact Laws.EncodeFits.edgeIdle time
    | fall now => exact Laws.EncodeFits.fall now
    | rise now => exact Laws.EncodeFits.rise now
    | edgeReserved time => exact Laws.EncodeFits.edgeReserved time
    | readIdle => exact Laws.EncodeFits.readIdle
    | isValid => exact Laws.EncodeFits.isValid
    | takeCode => exact Laws.EncodeFits.takeCode
    | getInfo => exact Laws.EncodeFits.getInfo
    | reset => exact Laws.EncodeFits.reset
  exact hfits tickW h

theorem decode_encodeWord {tickW : Nat} {i : Instr} (h : i.wellFormed tickW = true) :
    decode tickW (portOf i) (encodeWord tickW i) = .ok i := by
  have hfits := encodeWord_lt h
  cases hport : portOf i with
  | edge =>
    rw [hport] at hfits
    exact decode_edge_eq_ok.mpr ⟨hfits, edgeInstr_encodeWord hport h⟩
  | read =>
    rw [hport] at hfits
    exact decode_read_eq_ok.mpr ⟨hfits, readInstr_encodeWord hport⟩
  | ctrl =>
    cases eq_reset_of_portOf hport
    rfl

/-- Settles O4: on each port the fields of the word are those the encoder put there. -/
theorem decodeOfEncodeIsIdentity : Obligations.DecodeOfEncodeIsIdentity :=
  fun _ _ => decode_encodeWord

/-- Settles O5, port by port: a word that decodes fits its port, and there it is its fields. -/
theorem encodeOfDecodeIsIdentity : Obligations.EncodeOfDecodeIsIdentity := by
  intro tickW port w i hdecode
  cases port with
  | edge =>
    obtain ⟨hfits, rfl⟩ := decode_edge_eq_ok.mp hdecode
    exact encode_edgeInstr hfits
  | read =>
    obtain ⟨hfits, rfl⟩ := decode_read_eq_ok.mp hdecode
    simpa [Nat.mod_eq_of_lt hfits] using encode_readInstr tickW (BitVec.ofNat 2 w)
  | ctrl =>
    obtain ⟨rfl, rfl⟩ := decode_ctrl_eq_ok.mp hdecode
    exact ⟨rfl, rfl⟩

/-! ### Words written out -/

/-- Settles O2: the four words are those of the four edge operations with that time. -/
theorem edgeOpFieldSelectsOperation : Obligations.EdgeOpFieldSelectsOperation := by
  intro tickW time htime
  have hwf : decide (time < 2 ^ tickW) = true := decide_eq_true htime
  exact ⟨decode_encodeWord (i := .edgeIdle time) hwf, decode_encodeWord (i := .fall time) hwf,
    decode_encodeWord (i := .rise time) hwf, decode_encodeWord (i := .edgeReserved time) hwf⟩

theorem decode_readIdle (tickW : Nat) : decode tickW .read 0b00 = .ok .readIdle :=
  decode_encodeWord (i := .readIdle) rfl

theorem decode_isValid (tickW : Nat) : decode tickW .read 0b01 = .ok .isValid :=
  decode_encodeWord (i := .isValid) rfl

theorem decode_takeCode (tickW : Nat) : decode tickW .read 0b10 = .ok .takeCode :=
  decode_encodeWord (i := .takeCode) rfl

theorem decode_getInfo (tickW : Nat) : decode tickW .read 0b11 = .ok .getInfo :=
  decode_encodeWord (i := .getInfo) rfl

theorem decode_reset (tickW : Nat) : decode tickW .ctrl 1 = .ok .reset :=
  decode_encodeWord (i := .reset) rfl

/-- Settles O1: each word is the word of its operation. -/
theorem sampleWordsDecode : Obligations.SampleWordsDecode :=
  ⟨decode_encodeWord (i := .fall 1100) rfl, decode_encodeWord (i := .rise 4200) rfl,
    decode_encodeWord (i := .edgeIdle 0) rfl, decode_encodeWord (i := .edgeReserved 3500) rfl,
    decode_readIdle 16, decode_isValid 16, decode_takeCode 16, decode_getInfo 16, decode_reset 16⟩

/-- Settles O3: a READ word is the word of the operation read from it, which decodes on its own port. -/
theorem readWordsAreAllAssigned : Obligations.ReadWordsAreAllAssigned := by
  refine ⟨fun tickW => ⟨decode_readIdle tickW, decode_isValid tickW, decode_takeCode tickW, decode_getInfo tickW⟩,
    fun tickW w => ⟨readInstr w, ?_⟩⟩
  obtain ⟨hwf, hencode⟩ := encode_readInstr tickW w
  obtain ⟨hport, hword⟩ := Prod.mk.inj hencode
  exact ⟨hport, hport ▸ hword ▸ decode_encodeWord hwf⟩

end Sys2Proof.Machine
end

section
/-! PROOF. The reserved EDGE form, the reader's operations and RESET, each one update of the state (R68, R110 to R113,
R150), and what the outputs and the record of faults show of a cycle (R67, R81, R132, R133). -/

namespace Sys2Proof.Machine

/-! ### The fields of the code (R67) -/

theorem toNat_remoteIdOf (code : Frame) : (remoteIdOf code).toNat = code.toNat / 16 := by
  simp only [remoteIdOf, BitVec.extractLsb'_toNat, Nat.shiftRight_eq_div_pow]
  omega

theorem toNat_keyOf (code : Frame) : (keyOf code).toNat = code.toNat % 16 := by
  simp [keyOf]

/-- The ID and the key together are the code. -/
theorem remoteIdOf_append_keyOf (code : Frame) : remoteIdOf code ++ keyOf code = code := by
  apply BitVec.eq_of_toNat_eq
  have hkey : (keyOf code).toNat < 2 ^ 4 := (keyOf code).isLt
  rw [BitVec.toNat_append, ← Nat.shiftLeft_add_eq_or_of_lt hkey, Nat.shiftLeft_eq, toNat_remoteIdOf, toNat_keyOf]
  omega

/-! ### Single operations -/

/-- Settles O14: the one update is `raiseFault`, with the reserved form's word. -/
theorem edgeReservedOnlyRecordsFault : Obligations.EdgeReservedOnlyRecordsFault :=
  fun s time => exec_edgeReserved time s

/-- Settles O24: READ_IDLE answers the state itself. -/
theorem readIdleHasNoEffect : Obligations.ReadIdleHasNoEffect := ⟨decode_readIdle, exec_readIdle⟩

/-- Settles O25: the one update is `deliver`. -/
theorem isValidDeliversReady : Obligations.IsValidDeliversReady := ⟨decode_isValid, exec_isValid⟩

/-- Settles O26: the two updates are `deliver` and `clearReady`. -/
theorem takeCodeDeliversAndClears : Obligations.TakeCodeDeliversAndClears := ⟨decode_takeCode, exec_takeCode⟩

/-- Settles O27: the fields delivered are those of R67, which the shift and the masks of R112 compute. -/
theorem getInfoDeliversAndClears : Obligations.GetInfoDeliversAndClears := by
  refine ⟨decode_getInfo, fun s => ⟨remoteIdOf s.block.code, keyOf s.block.code, exec_getInfo s, ?_, ?_⟩⟩
  · have hid : s.block.code.toNat / 16 < 2 ^ 20 := toNat_remoteIdOf s.block.code ▸ (remoteIdOf s.block.code).isLt
    rw [toNat_remoteIdOf, Nat.shiftRight_eq_div_pow, Nat.and_two_pow_sub_one_eq_mod _ 20, Nat.mod_eq_of_lt hid]
  · rw [toNat_keyOf, Nat.and_two_pow_sub_one_eq_mod _ 4]

/-- Settles O29: the one update is of the block, to `Block.reset`. -/
theorem resetZeroesTheBlock : Obligations.ResetZeroesTheBlock := ⟨decode_reset, exec_reset⟩

/-! ### The outputs of a cycle -/

/-- The outputs of a cycle show the block at its start, with and without RESET (R114, R153). -/
theorem step_outputs {s t : State} (hstep : step s = .next t) : t.outputs = outputsOf s.block := by
  cases hrst : portRst s with
  | true =>
    cases (step_rst hrst).symm.trans hstep
    rfl
  | false =>
    cases (step_run hrst).symm.trans hstep
    rfl

/-- Settles O35: the outputs are those of the block at the start, and the fields are slices of its code. -/
theorem outputsShowStartOfCycle : Obligations.OutputsShowStartOfCycle := by
  intro s t hstep
  rw [step_outputs hstep]
  exact ⟨rfl, rfl, toNat_remoteIdOf s.block.code, toNat_keyOf s.block.code, remoteIdOf_append_keyOf s.block.code⟩

/-! ### The faults of a cycle -/

/-- A cycle with RESET records nothing: the EDGE word raises no fault (R150). -/
theorem step_faults_rst {s t : State} (hstep : step s = .next t) (h : portRst s = true) : t.faults = s.faults := by
  cases (step_rst h).symm.trans hstep
  rfl

/-- A cycle without RESET records what its edge operation raises. -/
theorem step_faults_run {s t : State} (hstep : step s = .next t) (h : portRst s = false) :
    t.faults = s.faults ++ edgeFaults (fetchEdge s) s.params s.cycle := by
  cases (step_run h).symm.trans hstep
  rfl

/-- FALL and RISE record `TimestampRange` for a time above `MAX_TICK`, with their own word, and nothing else (R81). -/
theorem edgeFaults_timed {i : Instr} {now : Nat} (h : i = .fall now ∨ i = .rise now) (p : Params) (k : Nat) :
    edgeFaults i p k = if p.maxTick < now then [⟨k, .timestampRange, encodeWord p.tickW i⟩] else [] := by
  rcases h with rfl | rfl <;>
    simp only [edgeFaults, inRange_iff, ← Nat.not_lt, ite_not] <;> rfl

/-- Settles O42: the record grows by the faults of the edge operation, whose word is the EDGE word presented. -/
theorem faultRecordOfACycle : Obligations.FaultRecordOfACycle := by
  intro s t hstep
  have hrun := step_faults_run hstep
  have hword := encodeWord_fetchEdge s
  refine ⟨step_faults_rst hstep, fun hrst time hedge => ?_, fun hrst time hedge => ?_, fun hrst now hedge => ?_⟩
  · rw [hrun hrst, hedge]
    exact List.append_nil _
  · rw [hrun hrst, ← hword, hedge]
    rfl
  · rw [hrun hrst, edgeFaults_timed hedge, hword]

/-- Settles O44: the time of an EDGE word fits `TICK_W` bits, so it is at most the default `MAX_TICK`. -/
theorem defaultMaxTickNeverFaultsOnTime : Obligations.DefaultMaxTickNeverFaultsOnTime := by
  intro s t hmax hstep r hr
  obtain ⟨hreset, hidle, hreserved, htimed⟩ := faultRecordOfACycle s t hstep
  have hinRange : ¬ s.params.maxTick < edgeTimeField s.params.tickW (portEdge s) := by
    have htime := edgeTimeField_lt s.params.tickW (portEdge s)
    omega
  cases hrst : portRst s with
  | true => exact .inl (hreset hrst ▸ hr)
  | false =>
    rcases edgeInstr_cases s.params.tickW (portEdge s) with ⟨_, hi⟩ | ⟨_, hi⟩ | ⟨_, hi⟩ | ⟨_, hi⟩
    · exact .inl (hidle hrst _ hi ▸ hr)
    · simpa [htimed hrst _ (.inl hi), hinRange] using Or.inl hr
    · simpa [htimed hrst _ (.inr hi), hinRange] using Or.inl hr
    · rw [hreserved hrst _ hi] at hr
      rcases List.mem_append.mp hr with hold | hnew
      · exact .inl hold
      · exact .inr (by rw [List.mem_singleton.mp hnew])

/-! ### One word on one port -/

theorem portRst_presentInput (c : CycleInput) (s : State) : portRst (presentInput c s) = (c.rst == 1#1) := rfl

theorem fetchRead_presentInput (c : CycleInput) (s : State) : fetchRead (presentInput c s) = readInstr c.read := rfl

/-- The edge operation of a placed EDGE word that fits its port. -/
theorem fetchEdge_presentInput {c : CycleInput} {s : State} (h : c.edge < 2 ^ (s.params.tickW + 2)) :
    fetchEdge (presentInput c s) = edgeInstr s.params.tickW c.edge := by
  simp [fetchEdge, portEdge, Nat.mod_eq_of_lt h]

/-- The idle EDGE word is EDGE_IDLE with time 0 (R65, R72). -/
theorem edgeInstr_zero (tickW : Nat) : edgeInstr tickW 0 = .edgeIdle 0 := by
  simp [edgeInstr, edgeOpField, edgeTimeField]

/-- At every tick width, a step of a state with one word placed on its port runs the operation the word decodes to, and
nothing else. -/
theorem step_inputOn {s : State} {port : Port} {w : Nat} {i : Instr} (h : decode s.params.tickW port w = .ok i) :
    ∃ s1, exec i (beginCycle (presentInput (inputOn port w) s)) = .next s1 ∧
      step (presentInput (inputOn port w) s) = .next (endCycle s1) := by
  cases port with
  | edge =>
    obtain ⟨hfits, hi⟩ := decode_edge_eq_ok.mp h
    obtain ⟨s1, s2, hread, hedge, hstep⟩ :=
      step_eq_read_then_edge (portRst_presentInput (inputOn .edge w) s)
    rw [fetchEdge_presentInput hfits, inputOn, hi] at hedge
    cases hread
    exact ⟨s2, hedge, hstep⟩
  | read =>
    obtain ⟨_, hi⟩ := decode_read_eq_ok.mp h
    obtain ⟨s1, s2, hread, hedge, hstep⟩ :=
      step_eq_read_then_edge (portRst_presentInput (inputOn .read w) s)
    rw [fetchRead_presentInput, inputOn, hi] at hread
    rw [fetchEdge_presentInput (Nat.two_pow_pos _), inputOn, CycleInput.idle, edgeInstr_zero] at hedge
    cases hedge
    exact ⟨s1, hread, hstep⟩
  | ctrl =>
    obtain ⟨rfl, rfl⟩ := decode_ctrl_eq_ok.mp h
    exact ⟨_, exec_reset _, step_rst rfl⟩

theorem decodeTableWord_eq_some {nbits w : Nat} {i : Instr} : decodeTableWord nbits w = some i ↔
    ∃ port, tablePort nbits = some port ∧ decode Config.defaultTickW port w = .ok i := by
  cases hport : tablePort nbits with
  | none => simp [decodeTableWord, hport]
  | some port => cases hword : decode Config.defaultTickW port w <;> simp [decodeTableWord, hport, hword]

/-- Settles O33: the state places a table word on the port the table's decoder reads it from. -/
theorem placedTableWordIsRun : Obligations.PlacedTableWordIsRun := by
  intro s nbits w i htick htable
  obtain ⟨port, hport, hdecode⟩ := decodeTableWord_eq_some.mp htable
  have hplace : s.withFetchWord nbits w = presentInput (inputOn port w) s := by
    simp [State.withFetchWord, hport]
  rw [hplace]
  exact step_inputOn (htick ▸ hdecode)

end Sys2Proof.Machine
end

section
/-! PROOF. The assembler: which lists of items are a cycle and what its input carries (R72), and PULSE as two cycles
(R73). -/

namespace Sys2Proof.Machine

/-! ### The word of one port -/

/-- A port gets the idle word where it has no item, and the word of its one item, if that is well formed. -/
theorem portWordOf_eq_some {tickW missing w : Nat} {items : List Item} :
    portWordOf tickW missing items = some w ↔
      (items = [] ∧ w = missing) ∨
        ∃ it, items = [it] ∧ (itemInstr it).wellFormed tickW = true ∧ w = encodeWord tickW (itemInstr it) := by
  rcases items with _ | ⟨it, _ | ⟨it', rest⟩⟩
  · simp [portWordOf, eq_comm (b := w)]
  · simp [portWordOf, eq_comm (b := w)]
  · simp [portWordOf]

theorem exists_portWordOf {tickW missing : Nat} {items : List Item} :
    (∃ w, portWordOf tickW missing items = some w) ↔
      items.length ≤ 1 ∧ ∀ it ∈ items, (itemInstr it).wellFormed tickW = true := by
  rcases items with _ | ⟨it, _ | ⟨it', rest⟩⟩
  · simp [portWordOf]
  · simp [portWordOf]
  · simp [portWordOf]

theorem mem_itemsOn {port : Port} {items : List Item} {it : Item} :
    it ∈ itemsOn port items ↔ it ∈ items ∧ portOf (itemInstr it) = port := by
  simp [itemsOn]

/-- The word a port gets fits its wires (R62). -/
theorem portWordOf_itemsOn_lt {tickW w : Nat} {port : Port} {items : List Item}
    (h : portWordOf tickW 0 (itemsOn port items) = some w) : w < 2 ^ portWidth tickW port := by
  rcases portWordOf_eq_some.mp h with ⟨_, rfl⟩ | ⟨it, hone, hwf, rfl⟩
  · exact Nat.two_pow_pos _
  · obtain ⟨_, hport⟩ := mem_itemsOn.mp (hone ▸ List.mem_singleton_self it)
    exact hport ▸ encodeWord_lt hwf

/-! ### The input of a cycle -/

/-- A list of items assembles exactly if every port gets a word. -/
theorem exists_assemble {tickW : Nat} {items : List Item} :
    (∃ c, assemble tickW items = some c) ↔ ∀ port, ∃ w, portWordOf tickW 0 (itemsOn port items) = some w := by
  constructor
  · rintro ⟨c, h⟩ port
    unfold assemble at h
    split at h
    next rst edge read hrst hedge hread =>
      cases port with
      | edge => exact ⟨edge, hedge⟩
      | read => exact ⟨read, hread⟩
      | ctrl => exact ⟨rst, hrst⟩
    next => cases h
  · intro h
    obtain ⟨rst, hrst⟩ := h .ctrl
    obtain ⟨edge, hedge⟩ := h .edge
    obtain ⟨read, hread⟩ := h .read
    simp [assemble, hrst, hedge, hread]

/-- The input of an assembled cycle carries on each port the word the port gets: it fits the port's wires. -/
theorem portWordOf_of_assemble {tickW : Nat} {items : List Item} {c : CycleInput}
    (h : assemble tickW items = some c) (port : Port) :
    portWordOf tickW 0 (itemsOn port items) = some (inputWord c port) := by
  unfold assemble at h
  split at h
  next rst edge read hrst hedge hread =>
    cases h
    cases port with
    | edge => exact hedge
    | read =>
      have hfits : read < 4 := portWordOf_itemsOn_lt hread
      simp [inputWord, hread, Nat.mod_eq_of_lt hfits]
    | ctrl =>
      have hfits : rst < 2 := portWordOf_itemsOn_lt hrst
      simp [inputWord, hrst, Nat.mod_eq_of_lt hfits]
  next => cases h

/-- Settles O50: every port gets a word, and each item stands on one port. -/
theorem assemblerAcceptsOneItemPerPort : Obligations.AssemblerAcceptsOneItemPerPort := by
  intro tickW items
  simp only [exists_assemble, exists_portWordOf, mem_itemsOn, forall_and]
  refine and_congr_right fun _ => ⟨fun h it hit => ?_, fun h port it hit => ?_⟩
  · exact h (portOf (itemInstr it)) it ⟨hit, rfl⟩
  · exact h it hit.1

/-- Settles O51: the word of an item's port is the word of that item, the port's only one, and decodes to its
operation. -/
theorem assembledCycleCarriesItsItems : Obligations.AssembledCycleCarriesItsItems := by
  intro tickW items c hassemble
  have hwords := portWordOf_of_assemble hassemble
  refine ⟨fun it hit => ?_, fun port hnone => ?_⟩
  · have hmem : it ∈ itemsOn (portOf (itemInstr it)) items := mem_itemsOn.mpr ⟨hit, rfl⟩
    rcases portWordOf_eq_some.mp (hwords (portOf (itemInstr it))) with ⟨hnone, _⟩ | ⟨it', hone, hwf, hword⟩
    · simp [hnone] at hmem
    · obtain rfl : it = it' := by simpa [hone] using hmem
      exact hword ▸ decode_encodeWord hwf
  · have hword := hwords port
    rw [hnone] at hword
    exact (Option.some.inj hword).symm

/-! ### PULSE -/

/-- A well-formed edge item alone is a cycle: its word on the EDGE port, and nothing on the others. -/
theorem assemble_edge {tickW : Nat} {it : Item} (hport : portOf (itemInstr it) = .edge)
    (hwf : (itemInstr it).wellFormed tickW = true) :
    assemble tickW [it] = some (inputOn .edge (encodeWord tickW (itemInstr it))) := by
  simp [assemble, itemsOn, hport, portWordOf, hwf, inputOn, CycleInput.idle]

/-- A cycle that is given one edge operation's word, and nothing on the other ports, presents READ_IDLE and that
operation. -/
theorem opsOfCycles_edge {s : State} {i : Instr} (hport : portOf i = .edge)
    (hwf : i.wellFormed s.params.tickW = true) (n : Nat) (cs : List CycleInput) :
    opsOfCycles (n + 1) (withInputs (inputOn .edge (encodeWord s.params.tickW i) :: cs) s) =
      .readIdle :: i :: opsOfCycles n (withInputs cs (endCycle s)) := by
  have hfits : encodeWord s.params.tickW i < 2 ^ (s.params.tickW + 2) := by
    simpa [hport, portWidth] using encodeWord_lt hwf
  have hedge : fetchEdge (withInputs (inputOn .edge (encodeWord s.params.tickW i) :: cs) s) = i := by
    simp [fetchEdge, portEdge, inputOn, Nat.mod_eq_of_lt hfits, edgeInstr_encodeWord hport hwf]
  rw [opsOfCycles, hedge]
  rfl

/-- The inputs of the two cycles of `PULSE f, r`. -/
def pulseInputs (tickW f r : Nat) : List CycleInput :=
  [inputOn .edge (encodeWord tickW (.fall f)), inputOn .edge (encodeWord tickW (.rise r))]

theorem assembleAll_pulse {tickW f r : Nat} (hf : f < 2 ^ tickW) (hr : r < 2 ^ tickW) :
    assembleAll tickW (pulse f r) = some (pulseInputs tickW f r) := by
  simp only [pulse, assembleAll, assemble_edge (it := .fall f) rfl (decide_eq_true hf),
    assemble_edge (it := .rise r) rfl (decide_eq_true hr)]
  rfl

theorem opsOfCycles_pulseInputs {s : State} {f r : Nat} (hf : f < 2 ^ s.params.tickW) (hr : r < 2 ^ s.params.tickW) :
    opsOfCycles 2 (withInputs (pulseInputs s.params.tickW f r) s) = [.readIdle, .fall f, .readIdle, .rise r] := by
  have hfall := opsOfCycles_edge (s := s) (i := .fall f) rfl (decide_eq_true hf) 1
  have hrise := opsOfCycles_edge (s := endCycle s) (i := .rise r) rfl (decide_eq_true hr) 0 []
  exact (hfall _).trans (congrArg (.readIdle :: .fall f :: ·) hrise)

/-- Settles O52: the run of the two cycles is the sequence of their operations, in which READ_IDLE keeps the state as it
is. -/
theorem pulseIsFallThenRise : Obligations.PulseIsFallThenRise := by
  intro s f r hf hr
  have hrst : ∀ w ∈ (withInputs (pulseInputs s.params.tickW f r) s).rstIn.take 2, w = 0#1 := by
    simp [pulseInputs, inputOn, CycleInput.idle]
  obtain ⟨t, u, hrun, hexec, hsame⟩ := run_sameBlock 2 hrst (v := s) ⟨rfl, rfl⟩
  rw [opsOfCycles_pulseInputs hf hr, execAll_cons (exec_readIdle s)] at hexec
  exact ⟨_, t, u, assembleAll_pulse hf hr, rfl, hrun, hexec, hsame.block⟩

end Sys2Proof.Machine
end

section
/-! PROOF. The timestamp comparator and the threshold classifier: the range of `dur` and what it measures under the tick
contract (R80, R82, R141), and the classes of the corner cases (R85, R86). -/

namespace Sys2Proof.Machine

/-! ### The comparator (R80, R82) -/

/-- Settles O6: the first clause is the definition of `dur`, and its range fits the width by R8. -/
theorem durationFormula : Obligations.DurationFormula := by
  intro p ⟨_, _, hfits⟩ start stop hstart hstop
  have hle := dur_le hstart hstop
  have hpos := Nat.two_pow_pos p.tickW
  exact ⟨rfl, hle, by omega⟩

theorem dur_self {m a : Nat} (ha : a ≤ m) : dur m a a = m := by
  rw [dur_of_le (Nat.le_refl a), Nat.sub_add_cancel ha]

/-- A duration of 0 stands between the two timestamps a period apart, and nowhere else (R82). -/
theorem dur_eq_zero_iff {m a b : Nat} (ha : a ≤ m) : dur m a b = 0 ↔ a = m ∧ b = 0 := by
  rcases Nat.lt_or_ge a b with hlt | hle
  · rw [dur_of_lt hlt]
    omega
  · rw [dur_of_le hle]
    omega

/-- Under a counter of period `m`, `dur` is the elapsed time modulo the period, with whole periods shown as one (R82,
R141). -/
theorem dur_mod {m : Nat} (hm : 0 < m) (t e : Nat) :
    dur m (t % m) ((t + e) % m) = if e % m = 0 then m else e % m := by
  have ht := Nat.mod_lt t hm
  have he := Nat.mod_lt e hm
  rw [Nat.add_mod_eq_ite, dur]
  split_ifs <;> omega

/-- An interval shorter than a period is measured exactly, across a wrap or not (R82, R158). -/
theorem dur_tickAt {m e : Nat} (t : Nat) (hpos : 0 < e) (hlt : e < m) :
    dur m (tickAt m t) (tickAt m (t + e)) = e := by
  rw [tickAt, tickAt, dur_mod (Nat.zero_lt_of_lt hlt), Nat.mod_eq_of_lt hlt, if_neg (Nat.ne_of_gt hpos)]

/-- A counter of period `m + 1` loses a tick at a wrap (R82). -/
theorem dur_longer_period {m a e : Nat} (ha : a ≤ m) (he : e ≤ m) (hwrap : (a + e) % (m + 1) < a) :
    dur m a ((a + e) % (m + 1)) = e - 1 := by
  rcases Nat.lt_or_ge (a + e) (m + 1) with hlt | hge
  · rw [Nat.mod_eq_of_lt hlt] at hwrap
    omega
  · have hstop : (a + e) % (m + 1) = a + e - (m + 1) := by
      rw [Nat.mod_eq_sub_mod hge, Nat.mod_eq_of_lt (by omega)]
    rw [dur_of_le (Nat.le_of_lt hwrap), hstop]
    omega

/-- Settles O7, clause by clause: those about a counter are cases of `dur_mod`, and the one about a longer period is
`dur_longer_period`. -/
theorem durationProperties : Obligations.DurationProperties := by
  intro m hm
  refine ⟨fun a b hab _ => dur_of_lt hab, fun a b hba ha => ?_, fun t e => ?_, fun a ha => dur_self ha,
    fun a b ha _ => dur_eq_zero_iff ha, fun t e k => ?_,
    fun a e ha _ he hwrap => dur_longer_period ha he hwrap, by decide⟩
  · rw [dur_of_le (Nat.le_of_lt hba)]
    omega
  · rw [dur_mod hm]
    split
    next hzero => rw [Nat.mod_self, hzero]
    next => exact Nat.mod_mod e m
  · rw [Nat.add_mul_mod_self_right]

/-! ### The classifier (R85, R86) -/

theorem classify_low (th tl : Nat) : classify .low th tl =
    if 28 * th ≤ tl ∧ tl ≤ 34 * th then .sync
    else if 1 * th ≤ tl ∧ tl ≤ 5 * th then .zero
    else if 1 * tl ≤ th ∧ th ≤ 5 * tl then .one
    else .invalid := by
  simp only [classify, ratioIn_iff, syncMin, syncMax, symMin, symMax]

theorem classify_high (th tl : Nat) : classify .high th tl =
    if 29 * th ≤ tl ∧ tl ≤ 32 * th then .sync
    else if 2 * th ≤ tl ∧ tl ≤ 4 * th then .zero
    else if 2 * tl ≤ th ∧ th ≤ 4 * tl then .one
    else .invalid := by
  simp only [classify, ratioIn_iff, syncMin, syncMax, symMin, symMax]

/-- Settles O8: each profile has its equation. -/
theorem classifierFollowsThresholds : Obligations.ClassifierFollowsThresholds :=
  fun th tl => ⟨classify_low th tl, classify_high th tl⟩

theorem classify_low_sync {th tl : Nat} (hmin : 28 * th ≤ tl) (hmax : tl ≤ 34 * th) :
    classify .low th tl = .sync := by
  rw [classify_low, if_pos ⟨hmin, hmax⟩]

theorem classify_low_zero {th tl : Nat} (hpos : 0 < th) (hmin : th ≤ tl) (hmax : tl ≤ 5 * th) :
    classify .low th tl = .zero := by
  rw [classify_low, if_neg (by omega), if_pos (by omega)]

theorem classify_low_one {th tl : Nat} (hmin : tl < th) (hmax : th ≤ 5 * tl) : classify .low th tl = .one := by
  rw [classify_low, if_neg (by omega), if_neg (by omega), if_pos (by omega)]

/-- The ratios without a class under LOW: above the sync range, in the gap below it, and below the symbol range (R86). -/
theorem classify_low_invalid {th tl : Nat} (h : 34 * th < tl ∨ (5 * th < tl ∧ tl < 28 * th) ∨ 5 * tl < th) :
    classify .low th tl = .invalid := by
  rw [classify_low, if_neg (by omega), if_neg (by omega), if_neg (by omega)]

theorem classify_high_sync {th tl : Nat} (hmin : 29 * th ≤ tl) (hmax : tl ≤ 32 * th) :
    classify .high th tl = .sync := by
  rw [classify_high, if_pos ⟨hmin, hmax⟩]

theorem classify_high_zero {th tl : Nat} (hpos : 0 < th) (hmin : 2 * th ≤ tl) (hmax : tl ≤ 4 * th) :
    classify .high th tl = .zero := by
  rw [classify_high, if_neg (by omega), if_pos ⟨hmin, hmax⟩]

theorem classify_high_one {th tl : Nat} (hpos : 0 < tl) (hmin : 2 * tl ≤ th) (hmax : th ≤ 4 * tl) :
    classify .high th tl = .one := by
  rw [classify_high, if_neg (by omega), if_neg (by omega), if_pos ⟨hmin, hmax⟩]

/-- The ratios without a class under HIGH: those of LOW, and the ratios between the two symbols (R86). -/
theorem classify_high_invalid {th tl : Nat}
    (h : 32 * th < tl ∨ (4 * th < tl ∧ tl < 29 * th) ∨ (tl < 2 * th ∧ th < 2 * tl) ∨ 4 * tl < th) :
    classify .high th tl = .invalid := by
  rw [classify_high, if_neg (by omega), if_neg (by omega), if_neg (by omega)]

theorem classify_zero_zero (p : Profile) : classify p 0 0 = .sync := by
  cases p <;> rfl

/-- A pulse with one part of 0 and the other not has no class: every ratio asks that both be 0 (R86). -/
theorem classify_one_zero (p : Profile) {t : Nat} (h : 0 < t) :
    classify p 0 t = .invalid ∧ classify p t 0 = .invalid := by
  cases p with
  | low => exact ⟨classify_low_invalid (by omega), classify_low_invalid (by omega)⟩
  | high => exact ⟨classify_high_invalid (by omega), classify_high_invalid (by omega)⟩

/-- Settles O9: each multiple of `t` lies in one of the ranges of its profile. -/
theorem classifierCornerCases : Obligations.ClassifierCornerCases := by
  refine ⟨classify_zero_zero, fun t ht => ⟨classify_low_zero ht (by omega) (by omega), classify_high_invalid (by omega)⟩,
    fun p _ => classify_one_zero p, fun t ht => ?_, fun t ht => ?_,
    fun _ _ hmin hmax => classify_low_invalid (.inr (.inl ⟨hmin, hmax⟩)),
    fun _ _ hmin hmax => classify_high_invalid (.inr (.inl ⟨hmin, hmax⟩))⟩
  · exact ⟨classify_low_invalid (by omega), classify_low_sync (by omega) (by omega),
      classify_low_sync (by omega) (by omega), classify_low_invalid (by omega),
      classify_low_zero ht (by omega) (by omega), classify_low_invalid (by omega),
      classify_low_one (by omega) (by omega), classify_low_invalid (by omega)⟩
  · exact ⟨classify_high_invalid (by omega), classify_high_sync (by omega) (by omega),
      classify_high_sync (by omega) (by omega), classify_high_invalid (by omega),
      classify_high_zero ht (by omega) (by omega), classify_high_zero ht (by omega) (by omega),
      classify_high_invalid (by omega),
      classify_high_one ht (by omega) (by omega), classify_high_one ht (by omega) (by omega)⟩

/-- Settles O10: a T_high of 0 stands with a falling reference of 0 (the invariant), and from there `dur` is 0 only if
`MAX_TICK` is. -/
theorem zeroPairIsNeverClassified : Obligations.ZeroPairIsNeverClassified := by
  intro s hinv now _ ⟨hhigh, hlow⟩
  obtain ⟨⟨_, hmax, _⟩, _, ⟨_, hfall, _, _⟩, hzero, _⟩ := hinv
  obtain ⟨hwrap, _⟩ := (dur_eq_zero_iff hfall).mp hlow
  have hfallZero := hzero hhigh
  omega

end Sys2Proof.Machine
end

section
/-! PROOF. The edge operations: EDGE_IDLE, FALL and RISE as updates of the state (R88 to R92), edges in any order (R97),
and the RISEs before the first FALL (R156). -/

namespace Sys2Proof.Machine

/-! ### FALL and RISE in range and out of range -/

theorem exec_fall_of_le {now : Nat} {s : State} (h : now ≤ s.params.maxTick) :
    exec (.fall now) s = .next (setBlock (fallBlock s.params now s.block) s) := by
  rw [exec_fall, if_pos (inRange_iff.mpr h)]

theorem exec_fall_of_gt {now : Nat} {s : State} (h : s.params.maxTick < now) :
    exec (.fall now) s = .next (raiseFault .timestampRange (edgeWord s.params.tickW 1 now) s) := by
  rw [exec_fall, if_neg (inRange_iff.not.mpr (Nat.not_le.mpr h))]

theorem exec_rise_of_le {now : Nat} {s : State} (h : now ≤ s.params.maxTick) :
    exec (.rise now) s = .next (setBlock (riseBlock s.params now s.block) s) := by
  rw [exec_rise, if_pos (inRange_iff.mpr h)]

theorem exec_rise_of_gt {now : Nat} {s : State} (h : s.params.maxTick < now) :
    exec (.rise now) s = .next (raiseFault .timestampRange (edgeWord s.params.tickW 2 now) s) := by
  rw [exec_rise, if_neg (inRange_iff.not.mpr (Nat.not_le.mpr h))]

theorem classOf_rise_of_le {now : Nat} {s : State} (h : now ≤ s.params.maxTick) :
    classOf (.rise now) s = [riseClass s.params now s.block] :=
  if_pos (inRange_iff.mpr h)

/-- No operation writes the parameters (R35). -/
theorem exec_params {i : Instr} {s t : State} (hexec : exec i s = .next t) : t.params = s.params := by
  cases i with
  | edgeIdle _ | edgeReserved _ | readIdle | isValid | takeCode | getInfo | reset =>
    cases hexec
    rfl
  | fall now | rise now =>
    cases hexec
    split <;> rfl

/-! ### EDGE_IDLE and FALL -/

/-- Settles O11: the edge operation and the reader's leave the block, and the record grows by no fault. -/
theorem edgeIdleHasNoEffect : Obligations.EdgeIdleHasNoEffect := by
  refine ⟨fun tickW time htime => ?_, exec_edgeIdle, fun s time hrst hedge hread => ⟨_, step_run hrst, ?_, ?_⟩⟩
  · obtain ⟨hword, _⟩ := edgeOpFieldSelectsOperation tickW time htime
    rwa [Nat.zero_mul, Nat.zero_add] at hword
  · rw [endCycle_block, hedge, afterRead, hread]
    rfl
  · rw [hedge]
    exact List.append_nil _

/-- Settles O12: in range the update is `fallBlock`, whose T_high is `dur` written out, and out of range it is
`raiseFault`. -/
theorem fallStoresHighDuration : Obligations.FallStoresHighDuration := by
  refine ⟨fun tickW now hnow => ?_, fun _ _ => ⟨fun _ hnow => exec_fall_of_le hnow, exec_fall_of_gt⟩⟩
  obtain ⟨_, hfall, _, _⟩ := edgeOpFieldSelectsOperation tickW now hnow
  exact hfall

/-! ### RISE and the frame machine -/

theorem isSymbol_iff {c : PulseClass} : isSymbol c = true ↔ c = .zero ∨ c = .one := by
  cases c <;> simp [isSymbol]

theorem frameStep_sync (b : Block) : frameStep .sync b = openFrame b := rfl

theorem frameStep_of_idle {c : PulseClass} {b : Block} (hc : c ≠ .sync) (hidle : b.sync = false) :
    frameStep c b = b := by
  cases c with
  | sync => exact absurd rfl hc
  | zero | one | invalid => simp [frameStep, hidle]

theorem frameStep_invalid {b : Block} (hsync : b.sync = true) : frameStep .invalid b = closeFrame b := by
  simp [frameStep, hsync]

theorem frameStep_symbol {c : PulseClass} {b : Block} (hc : isSymbol c = true) (hsync : b.sync = true) :
    frameStep c b = acceptSymbol (symbolBit c) b := by
  rcases isSymbol_iff.mp hc with rfl | rfl <;> simp [frameStep, hsync]

theorem acceptSymbol_of_lt (bit : Bool) {b : Block} (h : b.idx.val + 1 < 24) :
    acceptSymbol bit b = { b with acc := accumulate bit b, idx := ⟨b.idx.val + 1, h⟩ } :=
  dif_pos h

theorem acceptSymbol_of_last (bit : Bool) {b : Block} (h : b.idx.val = 23) :
    acceptSymbol bit b = latchFrame (accumulate bit b) b :=
  dif_neg (by omega)

/-- Of the symbols, ONE sets the bit of its position and ZERO leaves `acc` (R87, R91). -/
theorem accumulate_symbolBit {c : PulseClass} (hc : isSymbol c = true) (b : Block) :
    accumulate (symbolBit c) b = if c = .one then b.acc ||| (1#24 <<< (23 - b.idx.val)) else b.acc := by
  rcases isSymbol_iff.mp hc with rfl | rfl <;> rfl

/-- Settles O13: in range the block is `frameStep` of the class on the block with T_low and the reference stored, and
each clause is a case of `frameStep`. -/
theorem riseRunsFrameMachine : Obligations.RiseRunsFrameMachine := by
  constructor
  · intro tickW now hnow
    obtain ⟨_, _, hrise, _⟩ := edgeOpFieldSelectsOperation tickW now hnow
    exact hrise
  intro s now tl c b a _ htl hc hb ha
  have hrise (hnow : now ≤ s.params.maxTick) : exec (.rise now) s = .next (setBlock (frameStep c b) s) := by
    rw [exec_rise_of_le hnow, hb, hc, htl]
    rfl
  have hsyncOf : b.sync = s.block.sync := by rw [hb]
  have hidxOf : b.idx = s.block.idx := by rw [hb]
  have hacc (hsym : isSymbol c = true) : accumulate (symbolBit c) b = a := by
    rw [accumulate_symbolBit hsym, ha, hb]
  refine ⟨fun hnow hsync => ?_, fun hnow hother hidle => ?_, fun hnow hinvalid hrecv => ?_,
    fun hnow hsym hrecv hlt => ?_, fun hnow hsym hrecv hlast => ?_, exec_rise_of_gt⟩
  · rw [hrise hnow, hsync]
    rfl
  · rw [hrise hnow, frameStep_of_idle hother (hsyncOf.trans hidle)]
    rfl
  · rw [hrise hnow, hinvalid, frameStep_invalid (hsyncOf.trans hrecv)]
    rfl
  · have hsym := isSymbol_iff.mpr hsym
    rw [hrise hnow, frameStep_symbol hsym (hsyncOf.trans hrecv), acceptSymbol_of_lt _ (hidxOf ▸ hlt), hacc hsym]
    simp only [setBlock, hidxOf]
  · have hsym := isSymbol_iff.mpr hsym
    rw [hrise hnow, frameStep_symbol hsym (hsyncOf.trans hrecv),
      acceptSymbol_of_last _ (hidxOf ▸ hlast), hacc hsym]
    rfl

/-! ### Edges in any order -/

/-- Settles O15: a FALL leaves the rising reference, and a RISE leaves the falling reference and T_high, so that the
second of two measures from where the first did. -/
theorem edgeOrderIsNotChecked : Obligations.EdgeOrderIsNotChecked := by
  intro s a b _ _ ha hb
  refine ⟨⟨_, _, exec_fall_of_le ha, exec_fall_of_le hb, rfl, rfl⟩,
    ⟨_, _, exec_rise_of_le ha, exec_rise_of_le hb, classOf_rise_of_le ha, ?_, ?_⟩⟩
  · rw [classOf_rise_of_le (s := setBlock (riseBlock s.params a s.block) s) hb]
    simp [riseClass, lowDuration]
  · refine ⟨riseBlock_dLow _ _ _, ?_, riseBlock_tRise _ _ _, ?_, ?_, ?_⟩
    · simp [lowDuration]
    · simp
    · simp
    · simp [setBlock, riseBlock, riseClass, lowDuration, frameStep_ticks]

/-! ### Before the first FALL (R156) -/

/-- No FALL has stored a duration or a reference since the reset (R34, R89). -/
def NoFallYet (b : Block) : Prop := b.dHigh = 0 ∧ b.tFall = 0

/-- Every operation but FALL keeps it. -/
theorem exec_noFallYet {i : Instr} {s t : State} (hi : ∀ now, i ≠ .fall now) (hexec : exec i s = .next t)
    (h : NoFallYet s.block) : NoFallYet t.block := by
  cases i with
  | fall now => exact absurd rfl (hi now)
  | edgeIdle _ | edgeReserved _ | readIdle | isValid | takeCode | getInfo =>
    cases hexec
    exact h
  | reset =>
    cases hexec
    exact ⟨rfl, rfl⟩
  | rise now =>
    rw [exec_rise] at hexec
    cases hexec
    split
    next => simpa [NoFallYet] using h
    next => exact h

/-- The T_low measured from a reference of 0 is positive, so a T_high of 0 beside it has no class (R86). -/
theorem classOf_noFallYet {i : Instr} {s : State} (hwf : s.params.Wf) (h : NoFallYet s.block) :
    ∀ c ∈ classOf i s, c = .invalid := by
  obtain ⟨_, hmax, _⟩ := hwf
  obtain ⟨hhigh, hfall⟩ := h
  have hlow (now : Nat) : 0 < lowDuration s.params now s.block := by
    have hne : dur s.params.maxTick 0 now ≠ 0 := fun hzero => by
      have := ((dur_eq_zero_iff (Nat.zero_le _)).mp hzero).1
      omega
    rw [lowDuration, hfall]
    exact Nat.pos_of_ne_zero hne
  cases i with
  | rise now =>
    simp only [classOf, riseClass, hhigh, (classify_one_zero _ (hlow now)).1]
    split <;> simp
  | edgeIdle _ | fall _ | edgeReserved _ | readIdle | isValid | takeCode | getInfo | reset => simp [classOf]

theorem classesOf_noFallYet {is : List Instr} {s : State} (hwf : s.params.Wf) (h : NoFallYet s.block)
    (hnoFall : ∀ i ∈ is, ∀ now, i ≠ .fall now) : ∀ c ∈ classesOf is s, c = .invalid := by
  induction is generalizing s with
  | nil => simp [classesOf]
  | cons i is ih =>
    obtain ⟨t, ht⟩ := exec_completes i s
    obtain ⟨hi, his⟩ := List.forall_mem_cons.mp hnoFall
    rw [classesOf_cons ht, List.forall_mem_append]
    exact ⟨classOf_noFallYet hwf h, ih (exec_params ht ▸ hwf) (exec_noFallYet hi ht h) his⟩

/-- Settles O21: RESET leaves no T_high and no falling reference, and only a FALL stores one. -/
theorem noSyncBeforeFirstFall : Obligations.NoSyncBeforeFirstFall := by
  intro is s t hwf hreset hnoFall
  cases hreset
  exact classesOf_noFallYet hwf ⟨rfl, rfl⟩ hnoFall

end Sys2Proof.Machine
end

section
/-! PROOF. The laws of the frame machine: a sequence of operations without RESET does to the frame what the frame machine
does on its classes, so that each law is one about lists of classes (R93, R94, R98). -/

namespace Sys2Proof.Machine

/-! ### The frame machine over a list of classes -/

/-- The frame machine on one class after another (R91, R92). -/
def frameRun (cs : List PulseClass) (b : Block) : Block := cs.foldl (fun b c => frameStep c b) b

@[simp] theorem frameRun_nil (b : Block) : frameRun [] b = b := rfl

@[simp] theorem frameRun_cons (c : PulseClass) (cs : List PulseClass) (b : Block) :
    frameRun (c :: cs) b = frameRun cs (frameStep c b) := rfl

theorem frameRun_append (cs cs' : List PulseClass) (b : Block) :
    frameRun (cs ++ cs') b = frameRun cs' (frameRun cs b) :=
  List.foldl_append

/-- Without a SYNC, Idle is never left (R92, R98). -/
theorem frameRun_of_idle {cs : List PulseClass} {b : Block} (hcs : .sync ∉ cs) (hidle : b.Idle) :
    frameRun cs b = b := by
  induction cs with
  | nil => rfl
  | cons c cs ih =>
    obtain ⟨hc, hcs⟩ := not_or.mp (List.mem_cons.not.mp hcs)
    rw [frameRun_cons, frameStep_of_idle (Ne.symm hc) hidle, ih hcs]

theorem frameRun_frameHistory (cs : List PulseClass) {seen : List PulseClass} {b : Block} (h : FrameHistory seen b) :
    FrameHistory (seen ++ cs) (frameRun cs b) := by
  induction cs generalizing seen b with
  | nil => simpa using h
  | cons c cs ih => simpa using ih (frameStep_frameHistory c h)

/-! ### Blocks that agree in the frame -/

/-- Two blocks agree in what the frame machine reads and in what it latches, but for `ready` (R90). -/
structure SameFrame (b b' : Block) : Prop where
  sync : b.sync = b'.sync
  idx : b.idx = b'.idx
  acc : b.acc = b'.acc
  code : b.code = b'.code

theorem SameFrame.trans {b b' b'' : Block} (h : SameFrame b b') (h' : SameFrame b' b'') : SameFrame b b'' :=
  ⟨h.sync.trans h'.sync, h.idx.trans h'.idx, h.acc.trans h'.acc, h.code.trans h'.code⟩

theorem accumulate_sameFrame (bit : Bool) {b b' : Block} (h : SameFrame b b') :
    accumulate bit b = accumulate bit b' := by
  rw [accumulate, accumulate, h.acc, h.idx]

theorem frameStep_sameFrame (c : PulseClass) {b b' : Block} (h : SameFrame b b') :
    SameFrame (frameStep c b) (frameStep c b') := by
  rcases frameStep_cases c b with ⟨rfl, _⟩ | ⟨hc, hidle, hstay⟩ | ⟨rfl, hsync, hclose⟩ | ⟨hc, hsync, haccept⟩
  · exact ⟨rfl, rfl, rfl, h.code⟩
  · rw [hstay, frameStep_of_idle hc (h.sync ▸ hidle)]
    exact h
  · rw [hclose, frameStep_invalid (h.sync ▸ hsync)]
    exact ⟨rfl, rfl, rfl, h.code⟩
  · have hacc := accumulate_sameFrame (symbolBit c) h
    rw [haccept, frameStep_symbol hc (h.sync ▸ hsync)]
    rcases acceptSymbol_cases (symbolBit c) b with ⟨hlt, hnext⟩ | ⟨hlast, hlatch⟩
    · rw [hnext, acceptSymbol_of_lt _ (h.idx ▸ hlt)]
      exact ⟨h.sync, by simp only [h.idx], hacc, h.code⟩
    · rw [hlatch, acceptSymbol_of_last _ (h.idx ▸ hlast)]
      exact ⟨rfl, rfl, rfl, hacc⟩

theorem frameRun_sameFrame (cs : List PulseClass) {b b' : Block} (h : SameFrame b b') :
    SameFrame (frameRun cs b) (frameRun cs b') := by
  induction cs generalizing b b' with
  | nil => exact h
  | cons c cs ih => exact ih (frameStep_sameFrame c h)

/-! ### A sequence of operations follows its classes -/

/-- `b` has the frame of `b'`, and `ready` only where `b'` has it: a reader may have taken it (R111, R112). -/
structure FollowsFrame (b b' : Block) : Prop extends SameFrame b b' where
  ready : b.ready = true → b'.ready = true

theorem FollowsFrame.refl (b : Block) : FollowsFrame b b := ⟨⟨rfl, rfl, rfl, rfl⟩, id⟩

theorem frameStep_followsFrame (c : PulseClass) {b b' : Block} (h : FollowsFrame b b') :
    FollowsFrame (frameStep c b) (frameStep c b') := by
  have hcompletes : classCompletes c b = classCompletes c b' := by
    rw [classCompletes, classCompletes, h.sync, h.idx]
  have hready (b : Block) : (frameStep c b).ready = if classCompletes c b then true else b.ready :=
    congrArg Block.ready (frameStep_ready c b b.ready)
  refine ⟨frameStep_sameFrame c h.toSameFrame, ?_⟩
  rw [hready b, hready b', hcompletes]
  split
  next => exact id
  next => exact h.ready

/-- An operation other than RESET steps the frame machine on its class, if it has one, and else leaves the frame. -/
theorem exec_followsFrame {i : Instr} {s t : State} {b : Block} (hi : i ≠ .reset) (hexec : exec i s = .next t)
    (h : FollowsFrame s.block b) : FollowsFrame t.block (frameRun (classOf i s) b) := by
  cases i with
  | reset => exact absurd rfl hi
  | edgeIdle _ | edgeReserved _ | readIdle | isValid =>
    cases hexec
    exact h
  | takeCode | getInfo =>
    cases hexec
    exact ⟨⟨h.sync, h.idx, h.acc, h.code⟩, fun hready => by simp at hready⟩
  | fall now =>
    rw [exec_fall] at hexec
    cases hexec
    split
    next => exact ⟨⟨h.sync, h.idx, h.acc, h.code⟩, h.ready⟩
    next => exact h
  | rise now =>
    rw [exec_rise] at hexec
    cases hexec
    rw [classOf]
    split
    next => exact frameStep_followsFrame _ ⟨⟨h.sync, h.idx, h.acc, h.code⟩, h.ready⟩
    next => exact h

/-- A sequence without RESET does to the frame what the frame machine does on its classes. -/
theorem execAll_followsFrame {is : List Instr} {s t : State} {b : Block} (hnoReset : NoReset is)
    (hexec : execAll is s = .next t) (h : FollowsFrame s.block b) :
    FollowsFrame t.block (frameRun (classesOf is s) b) := by
  induction is generalizing s b with
  | nil =>
    cases hexec
    exact h
  | cons i is ih =>
    obtain ⟨u, hu⟩ := exec_completes i s
    obtain ⟨hi, his⟩ := List.forall_mem_cons.mp hnoReset
    rw [execAll_cons hu] at hexec
    rw [classesOf_cons hu, frameRun_append]
    exact ih his hexec (exec_followsFrame hi hu h)

theorem execAll_completes (is : List Instr) (s : State) : ∃ t, execAll is s = .next t := by
  induction is generalizing s with
  | nil => exact ⟨s, rfl⟩
  | cons i is ih =>
    obtain ⟨u, hu⟩ := exec_completes i s
    rw [execAll_cons hu]
    exact ih u

theorem execAll_params {is : List Instr} {s t : State} (hexec : execAll is s = .next t) : t.params = s.params := by
  induction is generalizing s with
  | nil =>
    cases hexec
    rfl
  | cons i is ih =>
    obtain ⟨u, hu⟩ := exec_completes i s
    rw [execAll_cons hu] at hexec
    exact (ih hexec).trans (exec_params hu)

theorem execAll_append {is js : List Instr} {s u : State} (h : execAll is s = .next u) :
    execAll (is ++ js) s = execAll js u := by
  induction is generalizing s with
  | nil =>
    cases h
    rfl
  | cons i is ih =>
    obtain ⟨v, hv⟩ := exec_completes i s
    rw [execAll_cons hv] at h
    rw [List.cons_append, execAll_cons hv, ih h]

theorem classesOf_append {is js : List Instr} {s u : State} (h : execAll is s = .next u) :
    classesOf (is ++ js) s = classesOf is s ++ classesOf js u := by
  induction is generalizing s with
  | nil =>
    cases h
    rfl
  | cons i is ih =>
    obtain ⟨v, hv⟩ := exec_completes i s
    rw [execAll_cons hv] at h
    rw [List.cons_append, classesOf_cons hv, classesOf_cons hv, ih h, List.append_assoc]

theorem classesOf_singleton (i : Instr) (s : State) : classesOf [i] s = classOf i s := by
  obtain ⟨t, ht⟩ := exec_completes i s
  rw [classesOf_cons ht, classesOf, List.append_nil]

/-! ### Idle waits for SYNC (R98) -/

/-- Settles O19: on classes without a SYNC the frame machine leaves an Idle block as it is, and the sequence follows it. -/
theorem idleWaitsForSync : Obligations.IdleWaitsForSync := by
  intro is s hidle hnoReset hnoSync
  obtain ⟨t, ht⟩ := execAll_completes is s
  have hfollows := execAll_followsFrame hnoReset ht (.refl s.block)
  rw [frameRun_of_idle hnoSync hidle] at hfollows
  exact ⟨t, ht, hfollows.sync.trans hidle, hfollows.idx, hfollows.acc, hfollows.code, hfollows.ready⟩

/-! ### A frame under way -/

/-- The block is receiving a frame and has accepted the symbols `syms` (R21, R22, R23). -/
structure HoldsFrame (syms : List PulseClass) (b : Block) : Prop where
  receiving : b.Receiving syms.length
  symbols : HoldsSymbols b.acc syms

theorem holdsFrame_openFrame (b : Block) : HoldsFrame [] (openFrame b) := ⟨⟨rfl, rfl⟩, holdsSymbols_nil⟩

theorem HoldsFrame.of_sameFrame {syms : List PulseClass} {b b' : Block} (h : SameFrame b b')
    (hholds : HoldsFrame syms b') : HoldsFrame syms b := by
  obtain ⟨⟨hsync, hidx⟩, hsyms⟩ := hholds
  exact ⟨⟨h.sync.trans hsync, h.idx ▸ hidx⟩, h.acc ▸ hsyms⟩

/-- One of the first 23 symbols is added to the frame, and nothing is latched (R91). -/
theorem HoldsFrame.frameStep_next {c : PulseClass} {syms : List PulseClass} {b : Block} (h : HoldsFrame syms b)
    (hc : isSymbol c = true) (hlt : syms.length + 1 < 24) :
    HoldsFrame (syms ++ [c]) (frameStep c b) ∧ (frameStep c b).code = b.code ∧ (frameStep c b).ready = b.ready := by
  obtain ⟨⟨hsync, hidx⟩, hsyms⟩ := h
  rw [frameStep_symbol hc hsync, acceptSymbol_of_lt _ (hidx ▸ hlt)]
  exact ⟨⟨⟨hsync, by simp [hidx]⟩, hsyms.concat hidx.symm hc⟩, rfl, rfl⟩

/-- The 24th symbol latches the frame: `code` carries its symbols, `ready` is set, and the machine is Idle (R91, R93). -/
theorem HoldsFrame.frameStep_last {c : PulseClass} {syms : List PulseClass} {b : Block} (h : HoldsFrame syms b)
    (hc : isSymbol c = true) (hlast : syms.length = 23) :
    (frameStep c b).ready = true ∧ CarriesSymbols (frameStep c b).code (syms ++ [c]) ∧ (frameStep c b).Idle := by
  obtain ⟨⟨hsync, hidx⟩, hsyms⟩ := h
  rw [frameStep_symbol hc hsync, acceptSymbol_of_last _ (hidx.trans hlast)]
  exact ⟨rfl, (hsyms.concat hidx.symm hc).carriesSymbols (by simp [hlast]), rfl⟩

/-- Up to 23 symbols are accepted one after another, and nothing is latched. -/
theorem HoldsFrame.frameRun_symbols {syms more : List PulseClass} {b : Block} (h : HoldsFrame syms b)
    (hmore : ∀ c ∈ more, isSymbol c = true) (hfits : syms.length + more.length < 24) :
    HoldsFrame (syms ++ more) (frameRun more b) ∧ (frameRun more b).code = b.code ∧
      (frameRun more b).ready = b.ready := by
  induction more generalizing syms b with
  | nil => exact ⟨by simpa using h, rfl, rfl⟩
  | cons c more ih =>
    obtain ⟨hc, hmore⟩ := List.forall_mem_cons.mp hmore
    rw [List.length_cons] at hfits
    obtain ⟨hnext, hcode, hready⟩ := h.frameStep_next hc (by omega)
    obtain ⟨hholds, hcode', hready'⟩ := ih hnext hmore (by simp; omega)
    exact ⟨by simpa using hholds, hcode'.trans hcode, hready'.trans hready⟩

/-- A SYNC and up to 23 symbols leave a frame of those symbols under way, whatever the block was (R91, R95). -/
theorem holdsFrame_frameRun_sync {syms : List PulseClass} (b : Block) (hsyms : ∀ c ∈ syms, isSymbol c = true)
    (hlen : syms.length ≤ 23) :
    HoldsFrame syms (frameRun (.sync :: syms) b) ∧ (frameRun (.sync :: syms) b).code = b.code ∧
      (frameRun (.sync :: syms) b).ready = b.ready :=
  (holdsFrame_openFrame b).frameRun_symbols hsyms (by simp; omega)

/-! ### The frame law (R93) -/

/-- Settles O17: before the last RISE the block holds the frame of the first 23 symbols, and that RISE brings the
24th. -/
theorem frameLaw : Obligations.FrameLaw := by
  intro is now s syms hnoReset hnow hclasses hlen hsyms
  obtain ⟨u, hu⟩ := execAll_completes is s
  have hnowU : now ≤ u.params.maxTick := execAll_params hu ▸ hnow
  rw [classesOf_append hu, classesOf_singleton, classOf_rise_of_le hnowU, List.append_eq_cons_iff] at hclasses
  rcases hclasses with ⟨_, hone⟩ | ⟨first, hfirst, rfl⟩
  · cases (List.cons.inj hone).2
    cases hlen
  · have hlen23 : first.length = 23 := by simpa using hlen
    obtain ⟨hsymsFirst, hsymLast⟩ := List.forall_mem_append.mp fun c hc => isSymbol_iff.mpr (hsyms c hc)
    obtain ⟨hholds, _, _⟩ := holdsFrame_frameRun_sync s.block hsymsFirst (Nat.le_of_eq hlen23)
    have hfollows := execAll_followsFrame hnoReset hu (.refl s.block)
    rw [hfirst] at hfollows
    obtain ⟨hreceiving, hsymbols⟩ := hholds.of_sameFrame hfollows.toSameFrame
    have hstored : HoldsFrame first
        { u.block with dLow := lowDuration u.params now u.block, tRise := now } := ⟨hreceiving, hsymbols⟩
    refine ⟨_, (execAll_append hu).trans (execAll_cons (exec_rise_of_le hnowU)), ?_⟩
    exact hstored.frameStep_last (hsymLast _ (List.mem_singleton_self _)) hlen23

/-! ### The abort law (R94) -/

/-- An edge operation never clears `ready` (R53). -/
theorem execAll_edge_keeps_ready {is : List Instr} {s t : State} (hedge : ∀ i ∈ is, portOf i = .edge)
    (hexec : execAll is s = .next t) (h : s.block.ready = true) : t.block.ready = true := by
  induction is generalizing s with
  | nil =>
    cases hexec
    exact h
  | cons i is ih =>
    obtain ⟨hi, his⟩ := List.forall_mem_cons.mp hedge
    rw [execAll_cons (exec_edge hi s)] at hexec
    exact ih his hexec (afterEdge_keeps_ready i s.params h)

theorem noReset_of_edge {is : List Instr} (hedge : ∀ i ∈ is, portOf i = .edge) : NoReset is := by
  rintro _ hreset rfl
  exact absurd (hedge _ hreset) (by decide)

/-- The operation that completes a frame is a RISE whose class is the 24th symbol (R91). -/
theorem classOf_of_completes {i : Instr} {s : State} (h : completes i s = true) :
    s.block.Receiving 23 ∧ ∃ c, classOf i s = [c] ∧ isSymbol c = true := by
  cases i with
  | edgeIdle _ | fall _ | edgeReserved _ | readIdle | isValid | takeCode | getInfo | reset =>
    simp [completes, classOf] at h
  | rise now =>
    rw [completes_rise, classCompletes] at h
    simp only [Bool.and_eq_true, decide_eq_true_eq] at h
    obtain ⟨hin, ⟨hsync, hidx⟩, hsym⟩ := h
    exact ⟨⟨hsync, hidx⟩, _, if_pos hin, hsym⟩

/-- A sequence in which some operation completes a frame, split at that operation. -/
theorem exists_completes {is : List Instr} {s : State} (h : noneCompletes is s = false) :
    ∃ before i after u, is = before ++ i :: after ∧ execAll before s = .next u ∧ completes i u = true := by
  induction is generalizing s with
  | nil => simp [noneCompletes] at h
  | cons i is ih =>
    obtain ⟨t, ht⟩ := exec_completes i s
    cases hi : completes i s with
    | true => exact ⟨[], i, is, s, rfl, rfl, hi⟩
    | false =>
      simp only [noneCompletes, hi, ht, Bool.not_false, Bool.true_and] at h
      obtain ⟨before, j, after, u, rfl, hbefore, hj⟩ := ih h
      exact ⟨i :: before, j, after, u, rfl, (execAll_cons ht).trans hbefore, hj⟩

/-- From Idle, a frame that is being received has been opened since, and its symbols have come since (R21, R22). -/
theorem execAll_underWay {is : List Instr} {s t : State} (hidle : s.block.Idle) (hnoReset : NoReset is)
    (hexec : execAll is s = .next t) (hsync : t.block.sync = true) : FrameUnderWay (classesOf is s) t.block := by
  have hsame : SameFrame t.block (frameRun (classesOf is s) (clearReady s.block)) :=
    (execAll_followsFrame hnoReset hexec (.refl s.block)).toSameFrame.trans
      (frameRun_sameFrame _ ⟨rfl, rfl, rfl, rfl⟩)
  have hhistory : FrameHistory [] (clearReady s.block) := .of_idle hidle (by simp)
  obtain ⟨pre, mid, hclasses, hlen, hsyms⟩ :=
    (frameRun_frameHistory (classesOf is s) hhistory).receiving (hsame.sync ▸ hsync)
  exact ⟨pre, mid, hclasses, hsame.idx ▸ hlen, hsame.acc ▸ hsyms⟩

/-- From Idle, a frame is completed only by a SYNC and 24 symbols (R94). -/
theorem exists_frame_of_completes {is : List Instr} {s : State} (hidle : s.block.Idle) (hnoReset : NoReset is)
    (h : noneCompletes is s = false) :
    ∃ pre mid post, classesOf is s = pre ++ .sync :: (mid ++ post) ∧ mid.length = 24 ∧
      ∀ c ∈ mid, c = .zero ∨ c = .one := by
  obtain ⟨before, i, after, u, rfl, hbefore, hcompletes⟩ := exists_completes h
  obtain ⟨⟨hsync, hidx⟩, c, hclass, hc⟩ := classOf_of_completes hcompletes
  obtain ⟨pre, mid, hclasses, hlen, hsyms, _⟩ :=
    execAll_underWay hidle (fun j hj => hnoReset j (List.mem_append_left _ hj)) hbefore hsync
  obtain ⟨v, hv⟩ := exec_completes i u
  refine ⟨pre, mid ++ [c], classesOf after v, ?_, by simp [hlen, hidx], fun d hd => isSymbol_iff.mp ?_⟩
  · rw [classesOf_append hbefore, classesOf_cons hv, hclass, hclasses]
    simp
  · rcases List.mem_append.mp hd with hold | hnew
    · exact hsyms d hold
    · exact List.mem_singleton.mp hnew ▸ hc

/-- Settles O18: the INVALID closes the frame of the symbols so far, of which nothing was latched; from the Idle it
leaves, `exists_frame_of_completes` applies. -/
theorem abortLaw : Obligations.AbortLaw := by
  intro is s syms hedge hclasses hlen hsyms
  obtain ⟨t, ht⟩ := execAll_completes is s
  obtain ⟨⟨hreceiving, _⟩, hcode, hready⟩ :=
    holdsFrame_frameRun_sync s.block (fun c hc => isSymbol_iff.mpr (hsyms c hc)) hlen
  have hnoReset := noReset_of_edge hedge
  have hfollows := execAll_followsFrame hnoReset ht (.refl s.block)
  rw [hclasses, frameRun_append, frameRun_cons, frameRun_nil, frameStep_invalid hreceiving.1] at hfollows
  have hreadyIff : t.block.ready = true ↔ s.block.ready = true :=
    ⟨fun h => hready ▸ hfollows.ready h, execAll_edge_keeps_ready hedge ht⟩
  exact ⟨t, ht, hfollows.sync, hfollows.idx, hfollows.acc, hfollows.code.trans hcode, Bool.eq_iff_iff.mpr hreadyIff,
    fun js hjs => exists_frame_of_completes hfollows.sync hjs⟩

end Sys2Proof.Machine
end

section
/-! PROOF. A line of pulses under the edge and tick contracts: each pulse is measured and classified by its true widths,
and a transmitted frame is published (R82, R83, R93, R140, R141, R158). -/

namespace Sys2Proof.Machine

/-! ### One pulse -/

theorem tickAt_le {p : Params} (hwf : p.Wf) (t : Nat) : tickAt p.maxTick t ≤ p.maxTick := by
  obtain ⟨_, hmax, _⟩ := hwf
  exact Nat.le_of_lt (Nat.mod_lt t hmax)

/-- What a pulse of true widths `h` and `l` from the rising edge at `t` has done in `v`, as seen from the state `s`
before it. -/
structure PulseDone (t h l : Nat) (s v : State) : Prop where
  params : v.params = s.params
  dHigh : v.block.dHigh = h
  dLow : v.block.dLow = l
  tRise : v.block.tRise = tickAt s.params.maxTick (t + h + l)
  faults : v.faults = s.faults

/-- A pulse whose parts are positive and shorter than a period is measured and classified by its true widths (R82, R83,
R158). -/
theorem exec_pulse {s : State} {t h l : Nat} (hwf : s.params.Wf) (htRise : s.block.tRise = tickAt s.params.maxTick t)
    (hh : 0 < h ∧ h < s.params.maxTick) (hl : 0 < l ∧ l < s.params.maxTick) :
    ∃ u v, exec (.fall (tickAt s.params.maxTick (t + h))) s = .next u ∧
      exec (.rise (tickAt s.params.maxTick (t + h + l))) u = .next v ∧
      classOf (.rise (tickAt s.params.maxTick (t + h + l))) u = [classify s.params.profile h l] ∧
      PulseDone t h l s v := by
  have hfall := exec_fall_of_le (tickAt_le hwf (t + h))
  have hhigh : highDuration s.params (tickAt s.params.maxTick (t + h)) s.block = h := by
    rw [highDuration, htRise, dur_tickAt t hh.1 hh.2]
  obtain ⟨u, hu, hparams, hdHigh, htFall, hfaults⟩ : ∃ u, exec (.fall (tickAt s.params.maxTick (t + h))) s = .next u ∧
      u.params = s.params ∧ u.block.dHigh = h ∧ u.block.tFall = tickAt s.params.maxTick (t + h) ∧
      u.faults = s.faults := ⟨_, hfall, rfl, hhigh, rfl, rfl⟩
  have hlow : lowDuration u.params (tickAt s.params.maxTick (t + h + l)) u.block = l := by
    rw [lowDuration, hparams, htFall, dur_tickAt (t + h) hl.1 hl.2]
  have hin : tickAt s.params.maxTick (t + h + l) ≤ u.params.maxTick := hparams ▸ tickAt_le hwf (t + h + l)
  refine ⟨u, _, hu, exec_rise_of_le hin, ?_, ⟨hparams, ?_, ?_, ?_, hfaults⟩⟩
  · rw [classOf_rise_of_le hin, riseClass, hlow, hdHigh, hparams]
  · exact (riseBlock_dHigh _ _ _).trans hdHigh
  · exact (riseBlock_dLow _ _ _).trans hlow
  · exact riseBlock_tRise _ _ _

/-- Settles O16: `exec_pulse`, of which the class is left out. -/
theorem pulseWidthsAreMeasuredExactly : Obligations.PulseWidthsAreMeasuredExactly := by
  intro s t h l hwf htRise hh hhlt hl hllt
  obtain ⟨u, v, hu, hv, _, hdone⟩ := exec_pulse hwf htRise ⟨hh, hhlt⟩ ⟨hl, hllt⟩
  exact ⟨u, v, hu, hv, hdone.dHigh, hdone.dLow, hdone.tRise, hdone.faults⟩

/-! ### A line -/

/-- By induction on the pulses: each leaves its last rising edge as the reference of the next. -/
theorem lineOps_classes_and_faults {pulses : List (Nat × Nat)} {s : State} {t : Nat} (hwf : s.params.Wf)
    (htRise : s.block.tRise = tickAt s.params.maxTick t) (hshort : ShortPulses s.params.maxTick pulses) :
    classesOf (lineOps s.params.maxTick t pulses) s = pulses.map (fun p => classify s.params.profile p.1 p.2) ∧
      ∃ u, execAll (lineOps s.params.maxTick t pulses) s = .next u ∧ u.faults = s.faults := by
  induction pulses generalizing s t with
  | nil => exact ⟨rfl, s, rfl, rfl⟩
  | cons pulse rest ih =>
    obtain ⟨h, l⟩ := pulse
    obtain ⟨⟨hh, hl⟩, hrest⟩ := List.forall_mem_cons.mp hshort
    obtain ⟨u, v, hu, hv, hclass, hdone⟩ := exec_pulse hwf htRise hh hl
    have hparams := hdone.params
    obtain ⟨hclasses, w, hw, hfaults⟩ := ih (s := v) (t := t + h + l) (hparams.symm ▸ hwf)
      (hparams.symm ▸ hdone.tRise) (hparams.symm ▸ hrest)
    rw [hparams] at hclasses hw
    refine ⟨?_, w, ?_, hfaults.trans hdone.faults⟩
    · rw [lineOps, classesOf_cons hu, classesOf_cons hv, hclass, hclasses]
      rfl
    · rw [lineOps, execAll_cons hu, execAll_cons hv, hw]

/-- Settles O22: the classes part of the induction over the line. -/
theorem lineIsClassifiedByTrueWidths : Obligations.LineIsClassifiedByTrueWidths :=
  fun _ _ _ hwf htRise hshort => (lineOps_classes_and_faults hwf htRise hshort).1

/-- A line that has a pulse ends with a RISE, and presents no RESET (R140). -/
theorem lineOps_ends_with_rise {pulses : List (Nat × Nat)} (maxTick t : Nat) (hne : pulses ≠ []) :
    ∃ is e, lineOps maxTick t pulses = is ++ [.rise (tickAt maxTick e)] ∧ NoReset is := by
  induction pulses generalizing t with
  | nil => exact absurd rfl hne
  | cons pulse rest ih =>
    obtain ⟨h, l⟩ := pulse
    cases rest with
    | nil => exact ⟨[.fall (tickAt maxTick (t + h))], t + h + l, rfl, by simp [NoReset]⟩
    | cons next rest =>
      obtain ⟨is, e, hline, hnoReset⟩ := ih (t + h + l) (List.cons_ne_nil _ _)
      refine ⟨.fall (tickAt maxTick (t + h)) :: .rise (tickAt maxTick (t + h + l)) :: is, e, ?_, ?_⟩
      · rw [lineOps, hline]
        rfl
      · simpa [NoReset] using hnoReset

/-- Settles O23: the line has the classes of the frame law, and ends with a RISE as it asks. -/
theorem transmittedFrameIsPublished : Obligations.TransmittedFrameIsPublished := by
  intro pulses s t syms hwf htRise hshort hwidths hlen hsyms
  obtain ⟨hclasses, u, hu, hfaults⟩ := lineOps_classes_and_faults hwf htRise hshort
  have hne : pulses ≠ [] := by
    rintro rfl
    cases hwidths
  obtain ⟨is, e, hline, hnoReset⟩ := lineOps_ends_with_rise s.params.maxTick t hne
  rw [hwidths, hline] at hclasses
  obtain ⟨v, hv, hready, hcarries, hidle⟩ :=
    frameLaw is _ s syms hnoReset (tickAt_le hwf e) hclasses hlen hsyms
  rw [← hline, hu] at hv
  cases hv
  exact ⟨u, hu, hready, hcarries, hidle, hfaults⟩

end Sys2Proof.Machine
end

section
/-! PROOF. What a cycle leaves of the frame and the rising reference (R90, R96), and that the reader cannot reach the
decoding (R139, R153). -/

namespace Sys2Proof.Machine

/-- Every operation but RISE writes at most T_high and the falling reference (R90). -/
theorem afterEdge_of_not_rise {i : Instr} (hi : ∀ now, i ≠ .rise now) (p : Params) (b : Block) :
    ∃ high fall, afterEdge i p b = { b with dHigh := high, tFall := fall } := by
  cases i with
  | rise now => exact absurd rfl (hi now)
  | edgeIdle _ | edgeReserved _ | readIdle | isValid | takeCode | getInfo | reset => exact ⟨b.dHigh, b.tFall, rfl⟩
  | fall now =>
    rw [afterEdge_fall]
    split
    next => exact ⟨highDuration p now b, now, rfl⟩
    next => exact ⟨b.dHigh, b.tFall, rfl⟩

/-- Settles O39: the reader writes `ready` alone, and the edge operation T_high and the falling reference. -/
theorem frameStateChangesOnlyInRise : Obligations.FrameStateChangesOnlyInRise := by
  intro s t hrst hstep hedge
  cases (step_run hrst).symm.trans hstep
  obtain ⟨high, fall, hblock⟩ := afterEdge_of_not_rise hedge s.params (afterRead s)
  rw [endCycle_block, hblock, afterRead_eq]
  exact ⟨rfl, rfl, rfl, rfl, rfl, rfl⟩

/-- The edge operation of a cycle, after whatever the reader did and whatever `ready` was, gives the block it gives
without the reader, but for `ready`. -/
theorem afterEdge_afterRead {s v : State} {ready : Bool} (h : v.block = { s.block with ready := ready }) (i : Instr) :
    ∃ r, afterEdge i s.params (afterRead v) = { afterEdge i s.params s.block with ready := r } := by
  rw [afterRead_eq, h]
  exact ⟨_, afterEdge_ready i s _⟩

theorem eq_with_ready {a b c : Block} {ra rb : Bool} (ha : a = { c with ready := ra }) (hb : b = { c with ready := rb }) :
    a = { b with ready := a.ready } := by
  rw [ha, hb]

/-- The state with another `ready`, other words of the reader and other values shown to it. -/
def withReader (ready : Bool) (readIn : List ReadWord) (outputs : Outputs) (returned : Returned) (s : State) : State :=
  { s with block := { s.block with ready := ready }, readIn := readIn, outputs := outputs, returned := returned }

/-- Settles O47: RESET overrides the reader, and otherwise the edge operation is the same and gives the same block but
for `ready`. -/
theorem readerCannotAffectDecoding : Obligations.ReaderCannotAffectDecoding := by
  intro s t ready readIn outputs returned hstep
  change ∃ u, step (withReader ready readIn outputs returned s) = .next u ∧ _
  cases hrst : portRst s with
  | true =>
    cases (step_rst hrst).symm.trans hstep
    exact ⟨_, step_rst (s := withReader ready readIn outputs returned s) hrst, rfl, rfl, rfl⟩
  | false =>
    cases (step_run hrst).symm.trans hstep
    obtain ⟨_, hblock⟩ := afterEdge_afterRead (s := s) (v := s) rfl (fetchEdge s)
    obtain ⟨_, hblock'⟩ :=
      afterEdge_afterRead (s := s) (v := withReader ready readIn outputs returned s) rfl (fetchEdge s)
    exact ⟨_, step_run (s := withReader ready readIn outputs returned s) hrst, eq_with_ready hblock' hblock, rfl, rfl⟩

end Sys2Proof.Machine
end

section
/-! PROOF. The latch `code` and `ready`: who writes it between resets (R119), and that a code once taken stays to be
taken again, marked stale, until the next frame (R116, R117). -/

namespace Sys2Proof.Machine

/-- An edge operation that completes no frame leaves `code`: only a RISE steps the frame machine, and only a completing
class latches there (R90, R91). -/
theorem afterEdge_code_of_not_completes {i : Instr} {s : State} (h : completes i s = false) :
    (afterEdge i s.params s.block).code = s.block.code := by
  by_cases hrise : ∃ now, i = .rise now
  · obtain ⟨now, rfl⟩ := hrise
    rw [completes_rise] at h
    rw [afterEdge_rise]
    cases hin : inRange s.params now with
    | false => rfl
    | true =>
      rw [hin, Bool.true_and] at h
      exact frameStep_code (c := riseClass s.params now s.block)
        (b := { s.block with dLow := lowDuration s.params now s.block, tRise := now }) h
  · obtain ⟨_, _, hblock⟩ := afterEdge_of_not_rise (not_exists.mp hrise) s.params s.block
    rw [hblock]

/-- An edge operation that completes no frame leaves `ready` (R47). -/
theorem afterEdge_ready_of_not_completes {i : Instr} {s : State} (h : completes i s = false) :
    (afterEdge i s.params s.block).ready = s.block.ready :=
  (congrArg Block.ready (afterEdge_ready i s s.block.ready)).trans (by simp [h])

/-- Settles O38: in the parallel update, without a completed frame `code` stays and `ready` is what the reader left;
with one, `ready` is 1. -/
theorem soleWritersOfTheLatch : Obligations.SoleWritersOfTheLatch := by
  intro s t hrst hstep
  obtain ⟨hblock, _, _⟩ := cycleIsParallelUpdate s _ t hrst (exec_edge (portOf_fetchEdge s) s) hstep
  cases hcompletes : completes (fetchEdge s) s with
  | true =>
    have hset : t.block.ready = true := by rw [hblock, hcompletes, if_pos rfl]
    exact ⟨fun _ _ => rfl, fun _ => rfl, fun _ hclear => absurd (hset.symm.trans hclear) (by decide)⟩
  | false =>
    have hcode : t.block.code = s.block.code := by
      rw [hblock]
      exact afterEdge_code_of_not_completes hcompletes
    have hready : t.block.ready =
        if fetchRead s = .takeCode ∨ fetchRead s = .getInfo then false else s.block.ready := by
      rw [hblock, hcompletes, if_neg Bool.false_ne_true]
    refine ⟨fun hnotReady hset => ?_, fun hne => absurd hcode hne, fun hwasReady hclear => ?_⟩
    · simp [hready, hnotReady] at hset
    · by_contra hnot
      simp [hready, hnot, hwasReady] at hclear

/-! ### A code that has been taken -/

/-- The latch holds `code`, and a reader has taken it: what a TAKE_CODE delivers now is stale (R115). -/
structure Taken (code : Frame) (b : Block) : Prop where
  code : b.code = code
  ready : b.ready = false

/-- An operation other than RESET that completes no frame keeps the taken code in the latch. -/
theorem exec_taken {i : Instr} {code : Frame} {s t : State} (hi : i ≠ .reset) (hcompletes : completes i s = false)
    (hexec : exec i s = .next t) (h : Taken code s.block) : Taken code t.block := by
  cases i with
  | reset => exact absurd rfl hi
  | readIdle | isValid =>
    cases hexec
    exact h
  | takeCode | getInfo =>
    cases hexec
    exact ⟨h.code, rfl⟩
  | edgeIdle _ | fall _ | rise _ | edgeReserved _ =>
    cases (exec_edge rfl s).symm.trans hexec
    exact ⟨(afterEdge_code_of_not_completes hcompletes).trans h.code,
      (afterEdge_ready_of_not_completes hcompletes).trans h.ready⟩

/-- No operation of a sequence completes a frame exactly if the first does not and none of the rest does. -/
theorem noneCompletes_cons {i : Instr} {is : List Instr} {s t : State} (h : exec i s = .next t) :
    noneCompletes (i :: is) s = true ↔ completes i s = false ∧ noneCompletes is t = true := by
  simp [noneCompletes, h]

/-- A sequence without RESET in which no frame completes keeps the taken code in the latch. -/
theorem execAll_taken {is : List Instr} {code : Frame} {s t : State} (hnoReset : NoReset is)
    (hnone : noneCompletes is s = true) (hexec : execAll is s = .next t) (h : Taken code s.block) :
    Taken code t.block := by
  induction is generalizing s with
  | nil =>
    cases hexec
    exact h
  | cons i is ih =>
    obtain ⟨u, hu⟩ := exec_completes i s
    obtain ⟨hi, his⟩ := List.forall_mem_cons.mp hnoReset
    obtain ⟨hcompletes, hrest⟩ := (noneCompletes_cons hu).mp hnone
    rw [execAll_cons hu] at hexec
    exact ih his hrest hexec (exec_taken hi hcompletes hu h)

/-- A TAKE_CODE of a taken code delivers it with `ready_o = 0` (R111, R115). -/
theorem exec_takeCode_of_taken {code : Frame} {s : State} (h : Taken code s.block) :
    ∃ t, exec .takeCode s = .next t ∧ t.returned = .code code false :=
  ⟨_, exec_takeCode s, by simp [h.code, h.ready]⟩

/-- Settles O28: the first TAKE_CODE leaves its code taken, the sequence keeps it so, and the second delivers it
stale. -/
theorem repeatedTakeDeliversSameCode : Obligations.RepeatedTakeDeliversSameCode := by
  intro is s t htake hnoReset hnone
  cases htake
  refine ⟨rfl, ?_⟩
  obtain ⟨u, hu⟩ := execAll_completes is (setBlock (clearReady s.block)
    (deliver (.code s.block.code s.block.ready) s))
  have htaken : Taken s.block.code u.block := execAll_taken hnoReset hnone hu ⟨rfl, rfl⟩
  obtain ⟨v, hv, hreturned⟩ := exec_takeCode_of_taken htaken
  exact ⟨u, v, hu, htaken.ready, hv, hreturned⟩

end Sys2Proof.Machine
end

section
/-! PROOF. A cycle whose CTRL word is RESET's: what it zeroes, what it keeps, and what it still shows (R150). -/

namespace Sys2Proof.Machine

/-- The port `rst` is up exactly if the CTRL word presented is 1. -/
theorem portRst_eq_true_iff (s : State) : portRst s = true ↔ s.rstIn.headD 0#1 = 1#1 := beq_iff_eq

/-- Settles O31: the step is `step_rst`'s, whose outputs and reader value are of the block at the cycle's start. -/
theorem resetCycleOverridesOtherWords : Obligations.ResetCycleOverridesOtherWords := by
  refine ⟨decode_reset, fun s hword => ?_⟩
  have hrst : portRst s = true := (portRst_eq_true_iff s).mpr hword
  have hstep := step_rst hrst
  exact ⟨_, hstep, rfl, step_faults_rst hstep hrst, rfl, step_outputs hstep, step_returned hstep, step_returned hstep⟩

end Sys2Proof.Machine
end
